-- ==== Sys2Proof/Word.lean ====
section
/-! DEFINITION. The words of the block and their plainest arithmetic (00_scope.md rule R6: unsigned bit vectors,
bits numbered from 0 at the least significant end, `+` and `−` wrapping). -/

namespace Sys2Proof

/-- One byte: an 8-bit register, one unit of caller memory (20_memory.md rule R60). -/
abbrev Byte := BitVec 8

/-- One 32-bit word: a FIFO word, a command argument, a sector number, a tick, an address. -/
abbrev Word := BitVec 32

/-- `zext_32` of a byte (rule R6). -/
abbrev Byte.zext (b : Byte) : Word := b.setWidth 32

/-- The low byte of a word, `v[7:0]`. -/
abbrev Word.lowByte (v : Word) : Byte := v.setWidth 8

end Sys2Proof
end

