-- ==== Sys2Proof/Config.lean ====
section
/-! DEFINITION. What an implementation fixes (00_scope.md rule R5, the record `cfg`), and the free values of the
model. `Cfg` is plain data so that a statement quantifies over every implementation; no step changes it. The two
`opaque` functions are the draws of rules R110, R116, R117: nothing can be proved of a value they give. -/

namespace Sys2Proof

/-- `cfg.TIMEOUT_SCOPE` (rule R5, 90_conflicts.md C2): when `status` applies its timeout test. -/
inductive TimeoutScope where
  | always
  | inFlightOnly
deriving DecidableEq, Repr

/-- `cfg.OFF` (rule R5): the byte offset of each register from `cfg.BASE`, one field per row of 10_state.md rule R51. An
offset has the seven bits of field `OFF` (30_encoding.md rule R85). -/
structure OffsetTable where
  sr : BitVec 7
  vr : BitVec 7
  mjvr : BitVec 7
  mivr : BitVec 7
  cmdx : BitVec 7
  arg1 : BitVec 7
  arg2 : BitVec 7
  arg3 : BitVec 7
  arg4 : BitVec 7
  rr0 : BitVec 7
  rr1 : BitVec 7
  rr2 : BitVec 7
  rr3 : BitVec 7
  rr4 : BitVec 7
  rr5 : BitVec 7
  rr6 : BitVec 7
  rr7 : BitVec 7
  rr8 : BitVec 7
  rr9 : BitVec 7
  rr10 : BitVec 7
  rr11 : BitVec 7
  rr12 : BitVec 7
  rr13 : BitVec 7
  rr14 : BitVec 7
  rr15 : BitVec 7
  rr16 : BitVec 7
  wdr : BitVec 7
  rdr : BitVec 7
  imr : BitVec 7
  sbimr : BitVec 7
  mbimr : BitVec 7
  isr : BitVec 7
  sbisr : BitVec 7
  mbisr : BitVec 7
  icr : BitVec 7
  sbicr : BitVec 7
  mbicr : BitVec 7
  ctrl : BitVec 7
  sbcsr : BitVec 7
  mbcsr : BitVec 7
  clkr : BitVec 7
  datato : BitVec 7
  blr : BitVec 7
deriving DecidableEq, Repr

/-- The configuration record of 00_scope.md rule R5, field by field. -/
structure Cfg where
  /-- `cfg.BASE`: byte address of offset 0x00 of the register window. -/
  base : Word
  /-- `cfg.OFF`: the register offset table. -/
  off : OffsetTable
  /-- `cfg.SECTOR_BYTES`: bytes of a sector, and of a caller's buffer. -/
  sectorBytes : Nat
  /-- `cfg.BLOCK_WORDS`: 32-bit FIFO words of a block. -/
  blockWords : Nat
  /-- `cfg.VR_VALUE`, `cfg.MJVR_VALUE`, `cfg.MIVR_VALUE`: the version constants. -/
  vrValue : Byte
  mjvrValue : Byte
  mivrValue : Byte
  /-- `cfg.SUPPORTED_REV`: the recognised values of `VR.REV`. -/
  supportedRev : List (BitVec 4)
  /-- `cfg.fifo_depth_words(c)` for `c` = 0, 1, 2, 3. -/
  fifoDepth0 : BitVec 16
  fifoDepth1 : BitVec 16
  fifoDepth2 : BitVec 16
  fifoDepth3 : BitVec 16
  /-- `cfg.DATA_TIMEOUT`: what initialization writes to `DATATO`. -/
  dataTimeout : Word
  /-- `cfg.OCR_ARG`: the argument of SEND_OP_COND. -/
  ocrArg : Word
  /-- `cfg.RCA`: the fixed relative address. -/
  rca : BitVec 16
  /-- `cfg.R1_ERROR_MASK`, `cfg.R1_READY_BIT`, `cfg.R1_STATE_HI`, `cfg.R1_STATE_LO`, `cfg.STATE_TRAN`. -/
  r1ErrorMask : Word
  r1ReadyBit : Nat
  r1StateHi : Nat
  r1StateLo : Nat
  stateTran : Word
  /-- `cfg.OCR_READY_BIT`, `cfg.OCR_MODE_HI`, `cfg.OCR_MODE_LO`, `cfg.OCR_MODE_SECTOR`. -/
  ocrReadyBit : Nat
  ocrModeHi : Nat
  ocrModeLo : Nat
  ocrModeSector : Word
  /-- `cfg.EXT_CSD_SENTINEL`: the reserved sector address that selects SEND_EXT_CSD. -/
  extCsdSentinel : Word
  /-- `cfg.EXT_CSD_SEC_COUNT`, `..._CARD_TYPE`, `..._HS_TIMING`, `..._BUS_WIDTH`: byte offsets in the Extended CSD;
  the last two are also the 8-bit byte index of a SWITCH argument. -/
  extCsdSecCount : Nat
  extCsdCardType : Nat
  extCsdHsTiming : Byte
  extCsdBusWidth : Byte
  /-- `cfg.LITTLE_ENDIAN`: byte order of multi-byte registers, requests and buffer words. -/
  littleEndian : Bool
  /-- `cfg.TICK_BITS`: width of `now`, start tick and timeout budget. -/
  tickBits : Nat
  /-- `cfg.TIMEOUT_SCOPE`. -/
  timeoutScope : TimeoutScope
deriving DecidableEq, Repr

namespace Config

/-- The free value of one 8-bit draw (10_state.md rule R27: "a value the model must not constrain"). -/
opaque draw8 : Nat → Byte

/-- The free value of one 32-bit draw (40_register_model.md rules R116, R117). -/
opaque draw32 : Nat → Word

/-- The default of `cfg.OFF`: the offsets of 10_state.md rule R51. -/
def offsetTable : OffsetTable where
  sr := 0x00#7
  vr := 0x01#7
  mjvr := 0x02#7
  mivr := 0x03#7
  cmdx := 0x04#7
  arg1 := 0x05#7
  arg2 := 0x06#7
  arg3 := 0x07#7
  arg4 := 0x08#7
  rr0 := 0x09#7
  rr1 := 0x0A#7
  rr2 := 0x0B#7
  rr3 := 0x0C#7
  rr4 := 0x0D#7
  rr5 := 0x0E#7
  rr6 := 0x0F#7
  rr7 := 0x10#7
  rr8 := 0x11#7
  rr9 := 0x12#7
  rr10 := 0x13#7
  rr11 := 0x14#7
  rr12 := 0x15#7
  rr13 := 0x16#7
  rr14 := 0x17#7
  rr15 := 0x18#7
  rr16 := 0x19#7
  wdr := 0x1C#7
  rdr := 0x20#7
  imr := 0x24#7
  sbimr := 0x25#7
  mbimr := 0x26#7
  isr := 0x28#7
  sbisr := 0x29#7
  mbisr := 0x2A#7
  icr := 0x2C#7
  sbicr := 0x2D#7
  mbicr := 0x2E#7
  ctrl := 0x30#7
  sbcsr := 0x34#7
  mbcsr := 0x38#7
  clkr := 0x40#7
  datato := 0x48#7
  blr := 0x50#7

/-- The configuration of the test vectors (95_test_vectors.md, opening paragraph): the defaults of rule R5, with the
values used there for the parameters that rule leaves OPEN. DESIGN CHOICE (log entry 2): unsafe for a claim that
rests on an OPEN value; no statement does. -/
def reference : Cfg where
  base := 0x40000000#32
  off := offsetTable
  sectorBytes := 512
  blockWords := 128
  vrValue := 0x19#8
  mjvrValue := 0x03#8
  mivrValue := 0x01#8
  supportedRev := [1#4]
  fifoDepth0 := 128#16
  fifoDepth1 := 1024#16
  fifoDepth2 := 4096#16
  fifoDepth3 := 8192#16
  dataTimeout := 0x00FFFFFF#32
  ocrArg := 0x40FF8080#32
  rca := 0x0001#16
  r1ErrorMask := 0xFDF98080#32
  r1ReadyBit := 8
  r1StateHi := 12
  r1StateLo := 9
  stateTran := 4#32
  ocrReadyBit := 31
  ocrModeHi := 30
  ocrModeLo := 29
  ocrModeSector := 2#32
  extCsdSentinel := 0xFFFFFFFF#32
  extCsdSecCount := 212
  extCsdCardType := 196
  extCsdHsTiming := 185#8
  extCsdBusWidth := 183#8
  littleEndian := true
  tickBits := 32
  timeoutScope := .always

end Config

end Sys2Proof
end

