-- ==== Sys2Proof/Syntax.lean ====
section
/-! DEFINITION. The whole instruction set: one constructor per row of spec/opcode_table.json, in the table's order.
Three formats (30_encoding.md): `REG`, a register transaction (rule R85); `CMD`, an eMMC command in the command
registers (rule R86); `OP`, an operation requested of the block (rule R95). -/

namespace Sys2Proof

/-- The 43 registers of the window (10_state.md rules R27 to R43), in the order of the offset table of rule R51. -/
inductive Reg where
  | sr | vr | mjvr | mivr
  | cmdx | arg1 | arg2 | arg3 | arg4
  | rr (n : Fin 17)
  | wdr | rdr
  | imr | sbimr | mbimr
  | isr | sbisr | mbisr
  | icr | sbicr | mbicr
  | ctrl | sbcsr | mbcsr
  | clkr | datato | blr
deriving DecidableEq, Repr

/-- The access sizes of a register transaction (30_encoding.md rule R85, field `SZ`). -/
inductive Size where
  | byte | half | word
deriving DecidableEq, Repr

/-- The caller-supplied policy of `send_command` (10_state.md rule R25). -/
inductive Policy where
  | poll | isrCheck | none
deriving DecidableEq, Repr

/-- The instruction set. A `REG` write carries the value written, at the register's own width. A `CMD` carries its whole
32-bit argument (rule R86: the index selects the command); `WellFormed` says which arguments a row's pattern admits.
An `OP` carries `iv` ("instance valid") and its operands (rule R95). -/
inductive Instr where
  -- format REG (40_register_model.md rules R110 to R125)
  | r8Sr
  | w8Sr (v : BitVec 8)
  | r8Vr
  | w8Vr (v : BitVec 8)
  | r8Mjvr
  | w8Mjvr (v : BitVec 8)
  | r8Mivr
  | w8Mivr (v : BitVec 8)
  | r8Cmdx
  | w8Cmdx (v : BitVec 8)
  | r8Arg1
  | w8Arg1 (v : BitVec 8)
  | r8Arg2
  | w8Arg2 (v : BitVec 8)
  | r8Arg3
  | w8Arg3 (v : BitVec 8)
  | r8Arg4
  | w8Arg4 (v : BitVec 8)
  | r8Rr0
  | w8Rr0 (v : BitVec 8)
  | r8Rr1
  | w8Rr1 (v : BitVec 8)
  | r8Rr2
  | w8Rr2 (v : BitVec 8)
  | r8Rr3
  | w8Rr3 (v : BitVec 8)
  | r8Rr4
  | w8Rr4 (v : BitVec 8)
  | r8Rr5
  | w8Rr5 (v : BitVec 8)
  | r8Rr6
  | w8Rr6 (v : BitVec 8)
  | r8Rr7
  | w8Rr7 (v : BitVec 8)
  | r8Rr8
  | w8Rr8 (v : BitVec 8)
  | r8Rr9
  | w8Rr9 (v : BitVec 8)
  | r8Rr10
  | w8Rr10 (v : BitVec 8)
  | r8Rr11
  | w8Rr11 (v : BitVec 8)
  | r8Rr12
  | w8Rr12 (v : BitVec 8)
  | r8Rr13
  | w8Rr13 (v : BitVec 8)
  | r8Rr14
  | w8Rr14 (v : BitVec 8)
  | r8Rr15
  | w8Rr15 (v : BitVec 8)
  | r8Rr16
  | w8Rr16 (v : BitVec 8)
  | r32Wdr
  | w32Wdr (v : BitVec 32)
  | r32Rdr
  | w32Rdr (v : BitVec 32)
  | r8Imr
  | w8Imr (v : BitVec 8)
  | r8Sbimr
  | w8Sbimr (v : BitVec 8)
  | r8Mbimr
  | w8Mbimr (v : BitVec 8)
  | r8Isr
  | w8Isr (v : BitVec 8)
  | r8Sbisr
  | w8Sbisr (v : BitVec 8)
  | r8Mbisr
  | w8Mbisr (v : BitVec 8)
  | r8Icr
  | w8Icr (v : BitVec 8)
  | r8Sbicr
  | w8Sbicr (v : BitVec 8)
  | r8Mbicr
  | w8Mbicr (v : BitVec 8)
  | r8Ctrl
  | w8Ctrl (v : BitVec 8)
  | r8Sbcsr
  | w8Sbcsr (v : BitVec 8)
  | r8Mbcsr
  | w8Mbcsr (v : BitVec 8)
  | r8Clkr
  | w8Clkr (v : BitVec 8)
  | r32Datato
  | w32Datato (v : BitVec 32)
  | r16Blr
  | w16Blr (v : BitVec 16)
  -- format CMD (41_command_interface.md rules R151 to R164)
  | goIdleState (arg : Word)
  | sendOpCond (arg : Word)
  | allSendCid (arg : Word)
  | setRelativeAddr (arg : Word)
  | switch (arg : Word)
  | selectCard (arg : Word)
  | sendExtCsd (arg : Word)
  | stopTransmission (arg : Word)
  | sendStatus (arg : Word)
  | readSingleBlock (arg : Word)
  | readMultipleBlock (arg : Word)
  | setBlockCount (arg : Word)
  | writeSingleBlock (arg : Word)
  | writeMultipleBlock (arg : Word)
  -- format OP (30_encoding.md rule R95)
  | init (iv : Bool) (initClkDiv clkDiv : Byte)
  | sbw (iv : Bool) (buf sector : Word)
  | sbr (iv : Bool) (sector buf : Word)
  | sbwNb (iv : Bool) (sector startTick timeoutTicks : Word)
  | sbrNb (iv : Bool) (sector startTick timeoutTicks : Word)
  | mbw (iv : Bool) (sector : Word) (count : BitVec 16) (startTick timeoutTicks : Word)
  | mbr (iv : Bool) (sector : Word) (count : BitVec 16) (startTick timeoutTicks : Word)
  | status (iv : Bool) (now : Word)
  | isr (iv : Bool)
  | initFifo (iv : Bool)
  | wfifoAddr (iv : Bool)
  | rfifoAddr (iv : Bool)
  | sendCommand (iv : Bool) (arg : Word) (index : BitVec 6) (policy : Policy)
  | issueCommand (iv : Bool) (arg : Word) (index : BitVec 6)
deriving DecidableEq, Repr

end Sys2Proof
end

