-- ==== Sys2Proof/Machine/CommandTable.lean ====
section
/-! DEFINITION. The command table of 41_command_interface.md rule R150: the response class of every command the block
sends, the index of every `CMD` row, and the argument pattern each row of spec/opcode_table.json admits. -/

namespace Sys2Proof.Machine

/-- The response classes of rule R150. -/
inductive RespClass where
  | none | r1 | r1b | r2 | r3
deriving DecidableEq, Repr

/-- `resp_class(index)` (rule R150); `none` where it is undefined. -/
def respClass (index : BitVec 6) : Option RespClass :=
  match index.toNat with
  | 0 => some .none
  | 1 => some .r3
  | 2 => some .r2
  | 3 => some .r1
  | 6 => some .r1b
  | 7 => some .r1
  | 8 => some .r1
  | 12 => some .r1b
  | 13 => some .r1
  | 17 => some .r1
  | 18 => some .r1
  | 23 => some .r1
  | 24 => some .r1
  | 25 => some .r1
  | _ => Option.none

/-- The argument pattern of a command's row (rules R151 to R164): all zeros, an address in the upper half, a SWITCH
argument of 30_encoding.md rule R92, a 16-bit count, or any 32 bits. An undefined index admits none. -/
def argumentFits (index : BitVec 6) (arg : Word) : Bool :=
  match index.toNat with
  | 0 | 2 | 8 | 12 => arg == 0#32
  | 3 | 7 | 13 => arg.extractLsb' 0 16 == 0#16
  | 6 => arg.extractLsb' 24 8 == 3#8 && arg.extractLsb' 0 8 == 0#8
  | 23 => arg.extractLsb' 16 16 == 0#16
  | 1 | 17 | 18 | 24 | 25 => true
  | _ => false

end Sys2Proof.Machine
end

