-- ==== Sys2Proof/Machine/Offsets.lean ====
section
/-! DEFINITION. The register window: where each register stands (`cfg.OFF`, 10_state.md rule R51), how wide it is, which
register an access reaches and which offsets are reserved (20_memory.md rules R61, R63; 10_state.md rule R44). -/

namespace Sys2Proof

/-- Byte offset of a register from `cfg.BASE`. -/
def Reg.offset (r : Reg) (t : OffsetTable) : BitVec 7 :=
  match r with
  | .sr => t.sr
  | .vr => t.vr
  | .mjvr => t.mjvr
  | .mivr => t.mivr
  | .cmdx => t.cmdx
  | .arg1 => t.arg1
  | .arg2 => t.arg2
  | .arg3 => t.arg3
  | .arg4 => t.arg4
  | .rr n =>
    match n.val with
    | 0 => t.rr0
    | 1 => t.rr1
    | 2 => t.rr2
    | 3 => t.rr3
    | 4 => t.rr4
    | 5 => t.rr5
    | 6 => t.rr6
    | 7 => t.rr7
    | 8 => t.rr8
    | 9 => t.rr9
    | 10 => t.rr10
    | 11 => t.rr11
    | 12 => t.rr12
    | 13 => t.rr13
    | 14 => t.rr14
    | 15 => t.rr15
    | _ => t.rr16
  | .wdr => t.wdr
  | .rdr => t.rdr
  | .imr => t.imr
  | .sbimr => t.sbimr
  | .mbimr => t.mbimr
  | .isr => t.isr
  | .sbisr => t.sbisr
  | .mbisr => t.mbisr
  | .icr => t.icr
  | .sbicr => t.sbicr
  | .mbicr => t.mbicr
  | .ctrl => t.ctrl
  | .sbcsr => t.sbcsr
  | .mbcsr => t.mbcsr
  | .clkr => t.clkr
  | .datato => t.datato
  | .blr => t.blr

/-- The one access size of a register (20_memory.md rule R63). -/
def Reg.size : Reg → Size
  | .wdr | .rdr | .datato => .word
  | .blr => .half
  | _ => .byte

/-- The bytes of an access. -/
def Size.bytes : Size → Nat
  | .byte => 1 | .half => 2 | .word => 4

/-- The 43 registers. -/
def allRegs : List Reg :=
  [.sr, .vr, .mjvr, .mivr, .cmdx, .arg1, .arg2, .arg3, .arg4,
   .rr 0, .rr 1, .rr 2, .rr 3, .rr 4, .rr 5, .rr 6, .rr 7, .rr 8, .rr 9, .rr 10, .rr 11, .rr 12, .rr 13, .rr 14,
   .rr 15, .rr 16, .wdr, .rdr, .imr, .sbimr, .mbimr, .isr, .sbisr, .mbisr, .icr, .sbicr, .mbicr,
   .ctrl, .sbcsr, .mbcsr, .clkr, .datato, .blr]

/-- The register an admitted access of this size at this offset reaches (20_memory.md rule R63). -/
def regAt (t : OffsetTable) (sz : Size) (off : BitVec 7) : Option Reg :=
  allRegs.find? fun r => r.size == sz && r.offset t == off

/-- A byte of the register stands at this offset. -/
def Reg.covers (r : Reg) (t : OffsetTable) (off : Nat) : Bool :=
  decide ((r.offset t).toNat ≤ off) && decide (off < (r.offset t).toNat + r.size.bytes)

/-- The reserved offsets of 10_state.md rule R44: inside the window, and no register stands there. With the offsets of rule
R51 these are the offsets rule R44 lists. -/
def isReservedOffset (t : OffsetTable) (off : BitVec 7) : Bool :=
  decide (off.toNat ≤ 0x51) && !allRegs.any (fun r => r.covers t off.toNat)

/-- The offset is a multiple of the register's width and its last byte is inside the window (20_memory.md rules R60,
R63). -/
def Reg.placed (r : Reg) (t : OffsetTable) : Bool :=
  (r.offset t).toNat % r.size.bytes == 0 && decide ((r.offset t).toNat + r.size.bytes ≤ 0x52)

/-- The bytes of two registers are apart. -/
def Reg.apart (t : OffsetTable) (r q : Reg) : Bool :=
  decide ((r.offset t).toNat + r.size.bytes ≤ (q.offset t).toNat)
  || decide ((q.offset t).toNat + q.size.bytes ≤ (r.offset t).toNat)

/-- Every register of the list has its place, apart from those after it. -/
def OffsetTable.disjoint (t : OffsetTable) : List Reg → Bool
  | [] => true
  | r :: rest => r.placed t && rest.all (fun q => r.apart t q) && t.disjoint rest

/-- An offset table: the 43 registers have their places in the window and no two share a byte. -/
def OffsetTable.wellFormed (t : OffsetTable) : Bool :=
  t.disjoint allRegs

end Sys2Proof
end

