-- ==== Sys2Proof/WellFormed.lean ====
section
/-! DEFINITION. What a well-formed instruction and a well-formed configuration are. Widths are in the types of
`Instr`; what is left is the argument pattern of a `CMD` row and the index operand of the two internal operations
(41_command_interface.md rules R151 to R165). -/

namespace Sys2Proof

/-- The instruction meets the operand conditions of its row. A `CMD` whose argument does not fit its row's pattern is
still executed (rule R86: the index alone selects the command); an internal operation with an undefined index is
refused by its meaning. -/
def Instr.wellFormed : Instr → Bool
  | .goIdleState arg => Machine.argumentFits 0#6 arg
  | .sendOpCond arg => Machine.argumentFits 1#6 arg
  | .allSendCid arg => Machine.argumentFits 2#6 arg
  | .setRelativeAddr arg => Machine.argumentFits 3#6 arg
  | .switch arg => Machine.argumentFits 6#6 arg
  | .selectCard arg => Machine.argumentFits 7#6 arg
  | .sendExtCsd arg => Machine.argumentFits 8#6 arg
  | .stopTransmission arg => Machine.argumentFits 12#6 arg
  | .sendStatus arg => Machine.argumentFits 13#6 arg
  | .readSingleBlock arg => Machine.argumentFits 17#6 arg
  | .readMultipleBlock arg => Machine.argumentFits 18#6 arg
  | .setBlockCount arg => Machine.argumentFits 23#6 arg
  | .writeSingleBlock arg => Machine.argumentFits 24#6 arg
  | .writeMultipleBlock arg => Machine.argumentFits 25#6 arg
  | .sendCommand _ _ index _ => (Machine.respClass index).isSome
  | .issueCommand _ _ index => (Machine.respClass index).isSome
  | .r8Sr | .w8Sr _ | .r8Vr | .w8Vr _ | .r8Mjvr | .w8Mjvr _ | .r8Mivr | .w8Mivr _ | .r8Cmdx | .w8Cmdx _
  | .r8Arg1 | .w8Arg1 _ | .r8Arg2 | .w8Arg2 _ | .r8Arg3 | .w8Arg3 _ | .r8Arg4 | .w8Arg4 _ | .r8Rr0 | .w8Rr0 _
  | .r8Rr1 | .w8Rr1 _ | .r8Rr2 | .w8Rr2 _ | .r8Rr3 | .w8Rr3 _ | .r8Rr4 | .w8Rr4 _ | .r8Rr5 | .w8Rr5 _ | .r8Rr6
  | .w8Rr6 _ | .r8Rr7 | .w8Rr7 _ | .r8Rr8 | .w8Rr8 _ | .r8Rr9 | .w8Rr9 _ | .r8Rr10 | .w8Rr10 _ | .r8Rr11
  | .w8Rr11 _ | .r8Rr12 | .w8Rr12 _ | .r8Rr13 | .w8Rr13 _ | .r8Rr14 | .w8Rr14 _ | .r8Rr15 | .w8Rr15 _ | .r8Rr16
  | .w8Rr16 _ | .r32Wdr | .w32Wdr _ | .r32Rdr | .w32Rdr _ | .r8Imr | .w8Imr _ | .r8Sbimr | .w8Sbimr _
  | .r8Mbimr | .w8Mbimr _ | .r8Isr | .w8Isr _ | .r8Sbisr | .w8Sbisr _ | .r8Mbisr | .w8Mbisr _ | .r8Icr
  | .w8Icr _ | .r8Sbicr | .w8Sbicr _ | .r8Mbicr | .w8Mbicr _ | .r8Ctrl | .w8Ctrl _ | .r8Sbcsr | .w8Sbcsr _
  | .r8Mbcsr | .w8Mbcsr _ | .r8Clkr | .w8Clkr _ | .r32Datato | .w32Datato _ | .r16Blr | .w16Blr _ | .init _ _ _
  | .sbw _ _ _ | .sbr _ _ _ | .sbwNb _ _ _ _ | .sbrNb _ _ _ _ | .mbw _ _ _ _ _ | .mbr _ _ _ _ _ | .status _ _
  | .isr _ | .initFifo _ | .wfifoAddr _ | .rfifoAddr _ => true

/-- The conditions 00_scope.md rule R5 puts on a configuration: a non-empty recognised set, a non-zero relative address
(41_command_interface.md rule R154), every FIFO at least one block deep (rule R5 with 43_blocking_transfers.md rule
R200), a block that is one sector (20_memory.md rule R68), the registers, the window and the Extended-CSD bytes inside
their spaces, bit numbers inside a word, a tick of some bits (DEDUCED, log entry 12). -/
def Cfg.wellFormed (c : Cfg) : Bool :=
  !c.supportedRev.isEmpty
  && c.rca != 0#16
  && c.off.wellFormed
  && 0 < c.blockWords && c.sectorBytes == 4 * c.blockWords
  && c.blockWords ≤ c.fifoDepth0.toNat && c.blockWords ≤ c.fifoDepth1.toNat
  && c.blockWords ≤ c.fifoDepth2.toNat && c.blockWords ≤ c.fifoDepth3.toNat
  && 0 < c.tickBits
  && c.base.toNat + 0x51 < 2 ^ 32
  && c.r1ReadyBit < 32 && c.ocrReadyBit < 32
  && c.r1StateLo ≤ c.r1StateHi && c.r1StateHi < 32
  && c.ocrModeLo ≤ c.ocrModeHi && c.ocrModeHi < 32
  && c.extCsdSecCount + 3 < c.sectorBytes && c.extCsdCardType < c.sectorBytes
  && c.extCsdHsTiming.toNat < c.sectorBytes && c.extCsdBusWidth.toNat < c.sectorBytes

end Sys2Proof
end

