-- ==== Sys2Proof/Decode.lean ====
section
/-! DEFINITION. The decoder, total on any bytes, and the encoder, both from 30_encoding.md. A packet is 6 bytes (format
`REG`, rule R85), 5 bytes (format `CMD`, rule R86) or 18 bytes (format `OP`, rule R95); rule R100 fixes the three
lengths and they differ, so the length tells the format (log entry 13). The byte order is
`cfg.LITTLE_ENDIAN` (20_memory.md rule R62), the register offsets are `cfg.OFF`. The decoder rejects by name (rule R98). -/

namespace Sys2Proof

/-! ### Byte order -/

/-- A 16-bit word from its two bytes in storage order (20_memory.md rule R62). -/
def halfOfBytes (le : Bool) (b0 b1 : Byte) : BitVec 16 :=
  if le then b1 ++ b0 else b0 ++ b1

/-- A 32-bit word from its four bytes in storage order (20_memory.md rules R62, R67). -/
def wordOfBytes (le : Bool) (b0 b1 b2 b3 : Byte) : Word :=
  if le then b3 ++ b2 ++ b1 ++ b0 else b0 ++ b1 ++ b2 ++ b3

/-- The bytes of a 16-bit word in storage order. -/
def bytesOfHalf (le : Bool) (v : BitVec 16) : List Byte :=
  if le then [v.extractLsb' 0 8, v.extractLsb' 8 8] else [v.extractLsb' 8 8, v.extractLsb' 0 8]

/-- The bytes of a 32-bit word in storage order. -/
def bytesOfWord (le : Bool) (v : Word) : List Byte :=
  if le then [v.extractLsb' 0 8, v.extractLsb' 8 8, v.extractLsb' 16 8, v.extractLsb' 24 8]
  else [v.extractLsb' 24 8, v.extractLsb' 16 8, v.extractLsb' 8 8, v.extractLsb' 0 8]

/-! ### Access sizes -/

/-- Field `SZ` of the header (rule R85); 3 is reserved. -/
def sizeOfCode (c : BitVec 2) : Option Size :=
  match c.toNat with
  | 0 => some .byte
  | 1 => some .half
  | 2 => some .word
  | _ => none

/-- The code of a size in field `SZ`. -/
def Size.code : Size → BitVec 2
  | .byte => 0#2 | .half => 1#2 | .word => 2#2

/-- Whether a data word is a value of this size zero-extended to 32 bits (rule R85). -/
def Size.fits : Size → Word → Bool
  | .byte, v => v.extractLsb' 8 24 == 0#24
  | .half, v => v.extractLsb' 16 16 == 0#16
  | .word, _ => true

/-! ### Decoding -/

/-- Why a packet is not admitted (30_encoding.md rule R98, 60_exceptions.md rule R267). -/
inductive DecodeError where
  /-- A header whose size or offset is not admitted (rule R63). -/
  | badTransaction
  /-- Any other encoding that is not admitted. -/
  | badRequest
  /-- A command index with no row in the command table (rule R150). -/
  | unknownIndex
deriving DecidableEq, Repr

/-- What a packet stands for. -/
inductive Decoded where
  /-- An instruction of the opcode table. -/
  | instr (i : Instr)
  /-- A 1-byte read or write of a reserved offset (40_register_model.md rule R126): admitted, and no row of the table. -/
  | reserved (write : Bool) (off : BitVec 7)
  | rejected (e : DecodeError)
deriving DecidableEq, Repr

/-- The read of a register. -/
def readInstr : Reg → Instr
  | .sr => .r8Sr
  | .vr => .r8Vr
  | .mjvr => .r8Mjvr
  | .mivr => .r8Mivr
  | .cmdx => .r8Cmdx
  | .arg1 => .r8Arg1
  | .arg2 => .r8Arg2
  | .arg3 => .r8Arg3
  | .arg4 => .r8Arg4
  | .rr n =>
    match n.val with
    | 0 => .r8Rr0
    | 1 => .r8Rr1
    | 2 => .r8Rr2
    | 3 => .r8Rr3
    | 4 => .r8Rr4
    | 5 => .r8Rr5
    | 6 => .r8Rr6
    | 7 => .r8Rr7
    | 8 => .r8Rr8
    | 9 => .r8Rr9
    | 10 => .r8Rr10
    | 11 => .r8Rr11
    | 12 => .r8Rr12
    | 13 => .r8Rr13
    | 14 => .r8Rr14
    | 15 => .r8Rr15
    | _ => .r8Rr16
  | .wdr => .r32Wdr
  | .rdr => .r32Rdr
  | .imr => .r8Imr
  | .sbimr => .r8Sbimr
  | .mbimr => .r8Mbimr
  | .isr => .r8Isr
  | .sbisr => .r8Sbisr
  | .mbisr => .r8Mbisr
  | .icr => .r8Icr
  | .sbicr => .r8Sbicr
  | .mbicr => .r8Mbicr
  | .ctrl => .r8Ctrl
  | .sbcsr => .r8Sbcsr
  | .mbcsr => .r8Mbcsr
  | .clkr => .r8Clkr
  | .datato => .r32Datato
  | .blr => .r16Blr

/-- The write of a register; the data word is cut to the register's width. -/
def writeInstr (r : Reg) (v : Word) : Instr :=
  match r with
  | .sr => .w8Sr (v.setWidth 8)
  | .vr => .w8Vr (v.setWidth 8)
  | .mjvr => .w8Mjvr (v.setWidth 8)
  | .mivr => .w8Mivr (v.setWidth 8)
  | .cmdx => .w8Cmdx (v.setWidth 8)
  | .arg1 => .w8Arg1 (v.setWidth 8)
  | .arg2 => .w8Arg2 (v.setWidth 8)
  | .arg3 => .w8Arg3 (v.setWidth 8)
  | .arg4 => .w8Arg4 (v.setWidth 8)
  | .rr n =>
    match n.val with
    | 0 => .w8Rr0 (v.setWidth 8)
    | 1 => .w8Rr1 (v.setWidth 8)
    | 2 => .w8Rr2 (v.setWidth 8)
    | 3 => .w8Rr3 (v.setWidth 8)
    | 4 => .w8Rr4 (v.setWidth 8)
    | 5 => .w8Rr5 (v.setWidth 8)
    | 6 => .w8Rr6 (v.setWidth 8)
    | 7 => .w8Rr7 (v.setWidth 8)
    | 8 => .w8Rr8 (v.setWidth 8)
    | 9 => .w8Rr9 (v.setWidth 8)
    | 10 => .w8Rr10 (v.setWidth 8)
    | 11 => .w8Rr11 (v.setWidth 8)
    | 12 => .w8Rr12 (v.setWidth 8)
    | 13 => .w8Rr13 (v.setWidth 8)
    | 14 => .w8Rr14 (v.setWidth 8)
    | 15 => .w8Rr15 (v.setWidth 8)
    | _ => .w8Rr16 (v.setWidth 8)
  | .wdr => .w32Wdr v
  | .rdr => .w32Rdr v
  | .imr => .w8Imr (v.setWidth 8)
  | .sbimr => .w8Sbimr (v.setWidth 8)
  | .mbimr => .w8Mbimr (v.setWidth 8)
  | .isr => .w8Isr (v.setWidth 8)
  | .sbisr => .w8Sbisr (v.setWidth 8)
  | .mbisr => .w8Mbisr (v.setWidth 8)
  | .icr => .w8Icr (v.setWidth 8)
  | .sbicr => .w8Sbicr (v.setWidth 8)
  | .mbicr => .w8Mbicr (v.setWidth 8)
  | .ctrl => .w8Ctrl (v.setWidth 8)
  | .sbcsr => .w8Sbcsr (v.setWidth 8)
  | .mbcsr => .w8Mbcsr (v.setWidth 8)
  | .clkr => .w8Clkr (v.setWidth 8)
  | .datato => .w32Datato v
  | .blr => .w16Blr (v.setWidth 16)

/-- Format `REG` (rule R85): header bit 15 is `W`, 14:13 `SZ`, 12:7 zero, 6:0 `OFF`. -/
def decodeReg (t : OffsetTable) (header : BitVec 16) (data : Word) : Decoded :=
  let write := header.extractLsb' 15 1 == 1#1
  let off := header.extractLsb' 0 7
  if header.extractLsb' 7 6 != 0#6 || decide (0x51 < off.toNat) then .rejected .badTransaction
  else match sizeOfCode (header.extractLsb' 13 2) with
    | none => .rejected .badTransaction
    | some sz =>
      if sz == .byte && isReservedOffset t off then
        if (if write then Size.byte.fits data else data == 0#32) then .reserved write off
        else .rejected .badRequest
      else match regAt t sz off with
        | none => .rejected .badTransaction
        | some r =>
          if write then (if sz.fits data then .instr (writeInstr r data) else .rejected .badRequest)
          else (if data == 0#32 then .instr (readInstr r) else .rejected .badRequest)

/-- Format `CMD` (rule R86): the index is `CMDX[5:0]`, bits 7:6 are ignored (rule R98); the index selects the command. -/
def decodeCmd (cmdx : Byte) (arg : Word) : Decoded :=
  match (cmdx.extractLsb' 0 6).toNat with
  | 0 => .instr (.goIdleState arg)
  | 1 => .instr (.sendOpCond arg)
  | 2 => .instr (.allSendCid arg)
  | 3 => .instr (.setRelativeAddr arg)
  | 6 => .instr (.switch arg)
  | 7 => .instr (.selectCard arg)
  | 8 => .instr (.sendExtCsd arg)
  | 12 => .instr (.stopTransmission arg)
  | 13 => .instr (.sendStatus arg)
  | 17 => .instr (.readSingleBlock arg)
  | 18 => .instr (.readMultipleBlock arg)
  | 23 => .instr (.setBlockCount arg)
  | 24 => .instr (.writeSingleBlock arg)
  | 25 => .instr (.writeMultipleBlock arg)
  | _ => .rejected .unknownIndex

/-- The policy operand of `send_command` (rules R95, R97); 3 is not a policy. -/
def policyOfCode (c : Word) : Option Policy :=
  if c == 0#32 then some .poll else if c == 1#32 then some .isrCheck else if c == 2#32 then some .none else Option.none

/-- The code of a policy (rule R97). -/
def Policy.code : Policy → Word
  | .poll => 0#32 | .isrCheck => 1#32 | .none => 2#32

/-- Format `OP` (rule R95): bit 0 of `flags` is `iv`, bits 7:1 are zero; unused operands, and the unused bits of a used
one, are zero (log entry 15). -/
def decodeOp (op flags : Byte) (a b c d : Word) : Decoded :=
  let iv := flags.getLsbD 0
  let fits8 := fun (v : Word) => v.extractLsb' 8 24 == 0#24
  let fits16 := fun (v : Word) => v.extractLsb' 16 16 == 0#16
  let fits6 := fun (v : Word) => v.extractLsb' 6 26 == 0#26
  let zero := fun (v : Word) => v == 0#32
  let allow := fun (ok : Bool) (i : Instr) => if ok then Decoded.instr i else .rejected .badRequest
  if flags.extractLsb' 1 7 != 0#7 then .rejected .badRequest
  else match op.toNat with
    | 0x01 => allow (fits8 a && fits8 b && zero c && zero d) (.init iv (a.setWidth 8) (b.setWidth 8))
    | 0x02 => allow (zero c && zero d) (.sbw iv a b)
    | 0x03 => allow (zero c && zero d) (.sbr iv a b)
    | 0x04 => allow (zero d) (.sbwNb iv a b c)
    | 0x05 => allow (zero d) (.sbrNb iv a b c)
    | 0x06 => allow (fits16 b) (.mbw iv a (b.setWidth 16) c d)
    | 0x07 => allow (fits16 b) (.mbr iv a (b.setWidth 16) c d)
    | 0x08 => allow (zero b && zero c && zero d) (.status iv a)
    | 0x09 => allow (zero a && zero b && zero c && zero d) (.isr iv)
    | 0x0A => allow (zero a && zero b && zero c && zero d) (.initFifo iv)
    | 0x0B => allow (zero a && zero b && zero c && zero d) (.wfifoAddr iv)
    | 0x0C => allow (zero a && zero b && zero c && zero d) (.rfifoAddr iv)
    | 0x0D =>
      match policyOfCode c with
      | Option.none => .rejected .badRequest
      | some p => allow (fits6 b && zero d) (.sendCommand iv a (b.setWidth 6) p)
    | 0x0E => allow (fits6 b && zero c && zero d) (.issueCommand iv a (b.setWidth 6))
    | _ => .rejected .badRequest

/-- The decoder: what the bytes of one packet stand for. -/
def decode (c : Cfg) (bytes : List Byte) : Decoded :=
  let le := c.littleEndian
  match bytes with
  | [h0, h1, d0, d1, d2, d3] => decodeReg c.off (halfOfBytes le h0 h1) (wordOfBytes le d0 d1 d2 d3)
  | [x, a1, a2, a3, a4] => decodeCmd x (a1 ++ a2 ++ a3 ++ a4)
  | [op, fl, a0, a1, a2, a3, b0, b1, b2, b3, c0, c1, c2, c3, d0, d1, d2, d3] =>
    decodeOp op fl (wordOfBytes le a0 a1 a2 a3) (wordOfBytes le b0 b1 b2 b3)
      (wordOfBytes le c0 c1 c2 c3) (wordOfBytes le d0 d1 d2 d3)
  | _ => .rejected .badRequest

/-- The instruction a decoded packet holds, if it is one. -/
def Decoded.instr? : Decoded → Option Instr
  | .instr i => some i
  | _ => none

/-! ### Encoding -/

/-- The header of a register transaction (rule R85). -/
def regHeader (t : OffsetTable) (write : Bool) (r : Reg) : BitVec 16 :=
  BitVec.ofBool write ++ r.size.code ++ 0#6 ++ r.offset t

/-- The six bytes of a register transaction. -/
def encodeReg (c : Cfg) (write : Bool) (r : Reg) (data : Word) : List Byte :=
  bytesOfHalf c.littleEndian (regHeader c.off write r) ++ bytesOfWord c.littleEndian data

/-- The five bytes of a command, in the order they are written: `CMDX`, `ARG1` to `ARG4` (rules R86, R87). -/
def encodeCmd (index : BitVec 6) (arg : Word) : List Byte :=
  index.setWidth 8 :: bytesOfWord false arg

/-- The eighteen bytes of an operation request (rule R95). -/
def encodeOp (le : Bool) (op : Byte) (iv : Bool) (a b c d : Word) : List Byte :=
  op :: (BitVec.ofBool iv).setWidth 8 :: (bytesOfWord le a ++ bytesOfWord le b ++ bytesOfWord le c ++ bytesOfWord le d)

/-- The bytes of an instruction. -/
def encode (c : Cfg) : Instr → List Byte
  | .r8Sr => encodeReg c false .sr 0#32
  | .w8Sr v => encodeReg c true .sr (v.setWidth 32)
  | .r8Vr => encodeReg c false .vr 0#32
  | .w8Vr v => encodeReg c true .vr (v.setWidth 32)
  | .r8Mjvr => encodeReg c false .mjvr 0#32
  | .w8Mjvr v => encodeReg c true .mjvr (v.setWidth 32)
  | .r8Mivr => encodeReg c false .mivr 0#32
  | .w8Mivr v => encodeReg c true .mivr (v.setWidth 32)
  | .r8Cmdx => encodeReg c false .cmdx 0#32
  | .w8Cmdx v => encodeReg c true .cmdx (v.setWidth 32)
  | .r8Arg1 => encodeReg c false .arg1 0#32
  | .w8Arg1 v => encodeReg c true .arg1 (v.setWidth 32)
  | .r8Arg2 => encodeReg c false .arg2 0#32
  | .w8Arg2 v => encodeReg c true .arg2 (v.setWidth 32)
  | .r8Arg3 => encodeReg c false .arg3 0#32
  | .w8Arg3 v => encodeReg c true .arg3 (v.setWidth 32)
  | .r8Arg4 => encodeReg c false .arg4 0#32
  | .w8Arg4 v => encodeReg c true .arg4 (v.setWidth 32)
  | .r8Rr0 => encodeReg c false (.rr 0) 0#32
  | .w8Rr0 v => encodeReg c true (.rr 0) (v.setWidth 32)
  | .r8Rr1 => encodeReg c false (.rr 1) 0#32
  | .w8Rr1 v => encodeReg c true (.rr 1) (v.setWidth 32)
  | .r8Rr2 => encodeReg c false (.rr 2) 0#32
  | .w8Rr2 v => encodeReg c true (.rr 2) (v.setWidth 32)
  | .r8Rr3 => encodeReg c false (.rr 3) 0#32
  | .w8Rr3 v => encodeReg c true (.rr 3) (v.setWidth 32)
  | .r8Rr4 => encodeReg c false (.rr 4) 0#32
  | .w8Rr4 v => encodeReg c true (.rr 4) (v.setWidth 32)
  | .r8Rr5 => encodeReg c false (.rr 5) 0#32
  | .w8Rr5 v => encodeReg c true (.rr 5) (v.setWidth 32)
  | .r8Rr6 => encodeReg c false (.rr 6) 0#32
  | .w8Rr6 v => encodeReg c true (.rr 6) (v.setWidth 32)
  | .r8Rr7 => encodeReg c false (.rr 7) 0#32
  | .w8Rr7 v => encodeReg c true (.rr 7) (v.setWidth 32)
  | .r8Rr8 => encodeReg c false (.rr 8) 0#32
  | .w8Rr8 v => encodeReg c true (.rr 8) (v.setWidth 32)
  | .r8Rr9 => encodeReg c false (.rr 9) 0#32
  | .w8Rr9 v => encodeReg c true (.rr 9) (v.setWidth 32)
  | .r8Rr10 => encodeReg c false (.rr 10) 0#32
  | .w8Rr10 v => encodeReg c true (.rr 10) (v.setWidth 32)
  | .r8Rr11 => encodeReg c false (.rr 11) 0#32
  | .w8Rr11 v => encodeReg c true (.rr 11) (v.setWidth 32)
  | .r8Rr12 => encodeReg c false (.rr 12) 0#32
  | .w8Rr12 v => encodeReg c true (.rr 12) (v.setWidth 32)
  | .r8Rr13 => encodeReg c false (.rr 13) 0#32
  | .w8Rr13 v => encodeReg c true (.rr 13) (v.setWidth 32)
  | .r8Rr14 => encodeReg c false (.rr 14) 0#32
  | .w8Rr14 v => encodeReg c true (.rr 14) (v.setWidth 32)
  | .r8Rr15 => encodeReg c false (.rr 15) 0#32
  | .w8Rr15 v => encodeReg c true (.rr 15) (v.setWidth 32)
  | .r8Rr16 => encodeReg c false (.rr 16) 0#32
  | .w8Rr16 v => encodeReg c true (.rr 16) (v.setWidth 32)
  | .r32Wdr => encodeReg c false .wdr 0#32
  | .w32Wdr v => encodeReg c true .wdr v
  | .r32Rdr => encodeReg c false .rdr 0#32
  | .w32Rdr v => encodeReg c true .rdr v
  | .r8Imr => encodeReg c false .imr 0#32
  | .w8Imr v => encodeReg c true .imr (v.setWidth 32)
  | .r8Sbimr => encodeReg c false .sbimr 0#32
  | .w8Sbimr v => encodeReg c true .sbimr (v.setWidth 32)
  | .r8Mbimr => encodeReg c false .mbimr 0#32
  | .w8Mbimr v => encodeReg c true .mbimr (v.setWidth 32)
  | .r8Isr => encodeReg c false .isr 0#32
  | .w8Isr v => encodeReg c true .isr (v.setWidth 32)
  | .r8Sbisr => encodeReg c false .sbisr 0#32
  | .w8Sbisr v => encodeReg c true .sbisr (v.setWidth 32)
  | .r8Mbisr => encodeReg c false .mbisr 0#32
  | .w8Mbisr v => encodeReg c true .mbisr (v.setWidth 32)
  | .r8Icr => encodeReg c false .icr 0#32
  | .w8Icr v => encodeReg c true .icr (v.setWidth 32)
  | .r8Sbicr => encodeReg c false .sbicr 0#32
  | .w8Sbicr v => encodeReg c true .sbicr (v.setWidth 32)
  | .r8Mbicr => encodeReg c false .mbicr 0#32
  | .w8Mbicr v => encodeReg c true .mbicr (v.setWidth 32)
  | .r8Ctrl => encodeReg c false .ctrl 0#32
  | .w8Ctrl v => encodeReg c true .ctrl (v.setWidth 32)
  | .r8Sbcsr => encodeReg c false .sbcsr 0#32
  | .w8Sbcsr v => encodeReg c true .sbcsr (v.setWidth 32)
  | .r8Mbcsr => encodeReg c false .mbcsr 0#32
  | .w8Mbcsr v => encodeReg c true .mbcsr (v.setWidth 32)
  | .r8Clkr => encodeReg c false .clkr 0#32
  | .w8Clkr v => encodeReg c true .clkr (v.setWidth 32)
  | .r32Datato => encodeReg c false .datato 0#32
  | .w32Datato v => encodeReg c true .datato v
  | .r16Blr => encodeReg c false .blr 0#32
  | .w16Blr v => encodeReg c true .blr (v.setWidth 32)
  | .goIdleState arg => encodeCmd 0#6 arg
  | .sendOpCond arg => encodeCmd 1#6 arg
  | .allSendCid arg => encodeCmd 2#6 arg
  | .setRelativeAddr arg => encodeCmd 3#6 arg
  | .switch arg => encodeCmd 6#6 arg
  | .selectCard arg => encodeCmd 7#6 arg
  | .sendExtCsd arg => encodeCmd 8#6 arg
  | .stopTransmission arg => encodeCmd 12#6 arg
  | .sendStatus arg => encodeCmd 13#6 arg
  | .readSingleBlock arg => encodeCmd 17#6 arg
  | .readMultipleBlock arg => encodeCmd 18#6 arg
  | .setBlockCount arg => encodeCmd 23#6 arg
  | .writeSingleBlock arg => encodeCmd 24#6 arg
  | .writeMultipleBlock arg => encodeCmd 25#6 arg
  | .init iv initClkDiv clkDiv => encodeOp c.littleEndian 0x01#8 iv (initClkDiv.setWidth 32) (clkDiv.setWidth 32) 0#32 0#32
  | .sbw iv buf sector => encodeOp c.littleEndian 0x02#8 iv buf sector 0#32 0#32
  | .sbr iv sector buf => encodeOp c.littleEndian 0x03#8 iv sector buf 0#32 0#32
  | .sbwNb iv sector startTick timeoutTicks => encodeOp c.littleEndian 0x04#8 iv sector startTick timeoutTicks 0#32
  | .sbrNb iv sector startTick timeoutTicks => encodeOp c.littleEndian 0x05#8 iv sector startTick timeoutTicks 0#32
  | .mbw iv sector count startTick timeoutTicks => encodeOp c.littleEndian 0x06#8 iv sector (count.setWidth 32) startTick timeoutTicks
  | .mbr iv sector count startTick timeoutTicks => encodeOp c.littleEndian 0x07#8 iv sector (count.setWidth 32) startTick timeoutTicks
  | .status iv now => encodeOp c.littleEndian 0x08#8 iv now 0#32 0#32 0#32
  | .isr iv => encodeOp c.littleEndian 0x09#8 iv 0#32 0#32 0#32 0#32
  | .initFifo iv => encodeOp c.littleEndian 0x0A#8 iv 0#32 0#32 0#32 0#32
  | .wfifoAddr iv => encodeOp c.littleEndian 0x0B#8 iv 0#32 0#32 0#32 0#32
  | .rfifoAddr iv => encodeOp c.littleEndian 0x0C#8 iv 0#32 0#32 0#32 0#32
  | .sendCommand iv arg index policy => encodeOp c.littleEndian 0x0D#8 iv arg (index.setWidth 32) policy.code 0#32
  | .issueCommand iv arg index => encodeOp c.littleEndian 0x0E#8 iv arg (index.setWidth 32) 0#32 0#32

/-! ### Words as the opcode table numbers them -/

/-- The bytes of the instruction whose bits are `w` in the numbering of spec/opcode_table.json, every bit above `nbits`
zero: 40 bits are a command (rule R86, the pattern read as one number, so `CMDX` is bits 39:32); 8 or 144 bits are an
operation, byte `k` being bits `8k+7 : 8k`; anything else is a register transaction, the header in bits 15:0 and the data
word in bits 47:16 (log entry 13). -/
def tableBytes (le : Bool) (nbits w : Nat) : List Byte :=
  let v := w % 2 ^ nbits
  if nbits == 40 then
    [BitVec.ofNat 8 (v / 2 ^ 32), BitVec.ofNat 8 (v / 2 ^ 24), BitVec.ofNat 8 (v / 2 ^ 16), BitVec.ofNat 8 (v / 2 ^ 8),
     BitVec.ofNat 8 v]
  else if nbits == 8 || nbits == 144 then
    (List.range 18).map fun k => BitVec.ofNat 8 (v / 2 ^ (8 * k))
  else
    bytesOfHalf le (BitVec.ofNat 16 v) ++ bytesOfWord le (BitVec.ofNat 32 (v / 2 ^ 16))

/-- The instruction the decoder reads from an instruction whose bits are `w`, numbered as spec/opcode_table.json numbers
them; `none` where the decoder rejects. The table is written for the default offsets and byte order of rule R5. -/
def decodeTableWord (nbits w : Nat) : Option Instr :=
  (decode Config.reference (tableBytes true nbits w)).instr?

end Sys2Proof
end

