-- ==== Sys2Proof/Machine/State.lean ====
section
/-! DEFINITION. The state of the block as plain data, and its value right after reset (10_state.md). Three layers, as the
spec has them: the engine registers `inst`, `par`, `st`; the controller registers `regs`; the hidden state `hid`. Then the
positions of ENGINE and DISPATCHER (rules R50, R274), caller memory, and the model's own fields (the agenda of turns, the
value handed to HOST, the words handed to DEVICE, the draw counter). -/

namespace Sys2Proof.Machine

/-! ### Enumerations -/

/-- The 22 error codes of 10_state.md rule R23, in the numeric order of 30_encoding.md rule R96. -/
inductive ErrCode where
  | transferSuccess | initSuccess | processing | unsupportedHwRevision | opCondErr | rcaError | cidRespErr | dwidthErr
  | resetErr | clkDivErr | crcErr | readCtrlErr | sbWriteFail | mbWriteFail | sbReadFail | mbReadFail
  | timeoutFail | noResponseFail | userErrorFail | otherFail | appTimeoutFail | intStatusFail
deriving DecidableEq, Repr

/-- The 20 states of the interrupt state machine (10_state.md rule R24), in the numeric order of 30_encoding.md rule
R97. -/
inductive FsmState where
  | idle | error | stopTransmission
  | swParseStatus | swIssueData | swAwaitDone
  | mwParseStatus | mwParseBlockCount | mwIssueData | mwAwaitDone
  | srParseStatus | srIssueData | srAwaitDone
  | mrParseStatus | mrParseBlockCount | mrIssueData | mrAwaitDone
  | xrParseStatus | xrIssueData | xrAwaitDone
deriving DecidableEq, Repr

/-- The three results of `issue_command` (10_state.md rule R25). -/
inductive CmdResult where
  | success | busy | fail
deriving DecidableEq, Repr

/-- The five chains (45_interrupt_state_machine.md rule R247). -/
inductive Chain where
  | sw | mw | sr | mr | xr
deriving DecidableEq, Repr

/-- The step of a chain state (10_state.md rule R24). -/
inductive ChainStep where
  | parseStatus | parseBlockCount | issueData | awaitDone
deriving DecidableEq, Repr

/-- `cmd_phase` (10_state.md rule R45). -/
inductive CmdPhase where
  | none | sending | awaitingResponse
deriving DecidableEq, Repr

/-- `data_phase` (10_state.md rule R46). -/
inductive DataPhase where
  | none | write | read
deriving DecidableEq, Repr

/-- `data_tier` (10_state.md rule R46); also the tier of a chain (rule R247). -/
inductive Tier where
  | sb | mb
deriving DecidableEq, Repr

/-- The three causes of an assertion fault (60_exceptions.md rule R266), in the spec's order. -/
inductive AssertReason where
  | nullInstance | zeroBlockCount | zeroTimeout
deriving DecidableEq, Repr

/-! ### How a step can stop -/

/-- The faults of the machine. -/
inductive Fault where
  /-- Answered by every step of a machine that has raised an assertion fault (60_exceptions.md rule R266: "no later request
  is served"; the faulted state is a sink). Safe: what the platform does next is not in the source. -/
  | assertFault (reason : AssertReason)
deriving DecidableEq, Repr

/-- The refusals: the model has no meaning for the request (00_scope.md rule R8, 60_exceptions.md rule R267). All are safe:
nothing is claimed of a run that does this. -/
inductive Refusal where
  /-- Raised by `exec` only, for an instruction that has no meaning yet. -/
  | notModelled (mnemonic : String)
  /-- `init` when `initialised` is true. -/
  | alreadyInitialised
  /-- A transfer operation when `initialised` is false. -/
  | notInitialised
  /-- `status` and `isr` while no `init` has reached its exit. -/
  | statusUnwritten
  /-- A transfer operation while `st.err_state = Processing`. -/
  | transferInFlight
  /-- `sbw` and `sbr` with a buffer that is misaligned or shorter than `cfg.SECTOR_BYTES` bytes. -/
  | badBuffer
  /-- A write of `ARG4` while a command is being sent or answered (40_register_model.md rule R136). -/
  | commandInFlight
  /-- A write of `ARG4`, `send_command` or `issue_command` with an index whose response class is undefined. -/
  | unknownIndex
  /-- A register transaction whose size or offset is not admitted (20_memory.md rule R63). -/
  | badTransaction
  /-- A request whose encoding is not admitted (30_encoding.md rule R98). -/
  | badRequest
deriving DecidableEq, Repr

/-- A value handed to HOST (00_scope.md rule R7, `return v`; 30_encoding.md rule R95, column "Returns"). -/
inductive Ret where
  | read8 (v : Byte)
  | read16 (v : BitVec 16)
  | read32 (v : Word)
  | errCode (e : ErrCode)
  | cmdResult (r : CmdResult)
  | address (a : Word)
  | r2 (v : BitVec 128)
deriving DecidableEq, Repr

/-! ### Engine registers -/

/-- The Instance record (10_state.md rule R20); its `status` field is the record `State.st`. -/
structure Inst where
  base : Word
  sectorCount : Word
  busWidth : BitVec 4
  clkDiv : Byte
  hwMajor : Byte
  hwMinor : Byte
  hsTiming : Byte
  fifoDepthWords : BitVec 16
  cardType : Byte
deriving DecidableEq, Repr

/-- The Params record (10_state.md rule R21). -/
structure Params where
  initClkDiv : Byte
  clkDiv : Byte
deriving DecidableEq, Repr

/-- The Status record (10_state.md rule R22). The two ticks have `cfg.TICK_BITS` bits: they are held as the numbers those bits
stand for, below 2^`cfg.TICK_BITS` (log entry 11). -/
structure Status where
  state : FsmState
  blocks : BitVec 16
  sector : Word
  startTick : Nat
  timeoutTicks : Nat
  errState : ErrCode
  tempErr : ErrCode
deriving DecidableEq, Repr

/-! ### Controller registers and hidden state -/

/-- The seventeen response registers (10_state.md rule R32). -/
structure RespRegs where
  rr0 : Byte
  rr1 : Byte
  rr2 : Byte
  rr3 : Byte
  rr4 : Byte
  rr5 : Byte
  rr6 : Byte
  rr7 : Byte
  rr8 : Byte
  rr9 : Byte
  rr10 : Byte
  rr11 : Byte
  rr12 : Byte
  rr13 : Byte
  rr14 : Byte
  rr15 : Byte
  rr16 : Byte
deriving DecidableEq, Repr

/-- The controller registers that hold state (10_state.md rules R30 to R42). `SR`, `WDR`, `RDR`, the clear registers, the
control-status views and the constants hold none; of `CTRL` only `CLKOE` is stored (rule R39). -/
structure Regs where
  cmdx : Byte
  arg1 : Byte
  arg2 : Byte
  arg3 : Byte
  arg4 : Byte
  rr : RespRegs
  imr : Byte
  sbimr : Byte
  mbimr : Byte
  isr : Byte
  sbisr : Byte
  mbisr : Byte
  clkoe : Bool
  clkr : Byte
  datato : Word
deriving DecidableEq, Repr

/-- The hidden state (10_state.md rules R45 to R47): the command latch, the data phase, the two FIFOs (head first). -/
structure Hidden where
  cmdPhase : CmdPhase
  curIndex : BitVec 6
  curArg : Word
  dataPhase : DataPhase
  dataTier : Tier
  wordsLeft : Nat
  wfifo : List Word
  rfifo : List Word
deriving DecidableEq, Repr

/-! ### Turns: who moves next, with the choices of the environment -/

/-- A response as DEVICE sends it (30_encoding.md rule R88). -/
inductive Resp where
  | short (p : BitVec 48)
  | long (p : BitVec 136)
deriving DecidableEq, Repr

/-- The CONTROLLER events of 40_register_model.md rules R128 to R134 with the choices rule R135 leaves to the environment;
`blocks` is the `n` of rule R129. -/
inductive Event where
  | cmdSent
  | respOk (p : Resp) (blocks : Nat)
  | respFail (silent : Bool)
  | wordOut
  | wordIn (w : Word)
  | dataDone (crc ctrl : Bool)
  | fifoTimeout
deriving DecidableEq, Repr

/-- Who submits a packet: HOST, or ENGINE itself for the two internal operations (30_encoding.md rules R95, R98). -/
inductive Requester where
  | host | engine
deriving DecidableEq, Repr

/-- One turn of the schedule (20_memory.md rule R71). -/
inductive Turn where
  /-- A packet is submitted. It waits until no delivery and no operation is in progress (rule R71 item 4). -/
  | request (src : Requester) (bytes : List Byte)
  /-- ENGINE takes one step of the operation in progress. -/
  | engine
  /-- DISPATCHER takes one step of the delivery in progress. -/
  | dispatcher
  /-- The platform delivers an interrupt (40_register_model.md rule R127); `iv` is the validity of the instance it passes. -/
  | deliver (iv : Bool)
  /-- HOST calls the entry point `isr` itself, at any time and whatever `irq` is (rule R71 item 3,
  45_interrupt_state_machine.md rule R235, 60_exceptions.md rule R271): the call falls between two steps of an operation in
  progress. It waits for a delivery in progress, since deliveries do not nest (rule R272); log entry 32. -/
  | hostIsr (iv : Bool)
  /-- HOST performs `read_r2` (41_command_interface.md rule R170), which has no row in the opcode table (log entry 28). It
  waits as a request does. -/
  | readR2
  /-- CONTROLLER takes an event. -/
  | event (e : Event)
deriving DecidableEq, Repr

/-! ### Positions inside an operation (10_state.md rule R50, 60_exceptions.md rule R274) -/

/-- Where a block read puts its words: the caller's buffer (`sbr`), or the scratch buffer of initialization step 7
(42_initialization.md rule R189). -/
inductive Dest where
  | caller (buf : Word)
  | scratch
deriving DecidableEq, Repr

/-- What follows a `wait_ready` loop (42_initialization.md rule R191). -/
inductive Wait where
  | initBus | initSpeed
  | writeBefore (buf sector : Word)
  | writeAfter
  | readBefore (sector : Word) (dest : Dest)
  | readAfter (dest : Dest)
deriving DecidableEq, Repr

/-- What the result of an `issue_command` is used for. -/
inductive Cont where
  /-- It is returned (the internal operation `issue_command`). -/
  | issued
  | initGoIdle | initOpCond | initCid | initRca | initSelect | initBusSwitch | initSpeedSwitch
  | ready (w : Wait)
  | writeCmd (buf : Word)
  | readCmd (dest : Dest)
deriving DecidableEq, Repr

/-- The next test or return of the pseudocode, reached when the planned steps are done. -/
inductive Point where
  /-- The operation ends, handing `v` to the requester. -/
  | ret (v : Option Ret)
  /-- `issue_command` has its result without a parse (class `none`, 41_command_interface.md rule R167). -/
  | result (k : Cont) (r : CmdResult)
  /-- The wait for `RRCV`, `RERR` or `SBE` has ended (rule R167). -/
  | responded (index : BitVec 6) (k : Cont)
  /-- `read_payload32` has ended and `parse_r1` follows (rules R167 to R169). -/
  | parsed (k : Cont)
  /-- `read_r2` has ended (rule R170). -/
  | r2Read
  /-- Initialization step 2, the version test (42_initialization.md rule R182). -/
  | initVersion
  /-- Initialization steps 3 and 4, the OCR has been read (rules R183, R184). -/
  | initOcr
  /-- Initialization step 7, the `HS_TIMING` test (rule R189). -/
  | initCaptured
  /-- `poll_done` has ended (43_blocking_transfers.md rules R200, R201, R203). -/
  | writeDone
  | readDone (dest : Dest)
  /-- DISPATCHER's snapshot is complete (45_interrupt_state_machine.md rule R236). -/
  | dispatch
  /-- A checkpoint's card status has been read (rules R242 to R244). -/
  | checkpoint (x : Chain) (step : ChainStep)
deriving DecidableEq, Repr

/-- An assignment to a field of `inst`. -/
inductive InstUpdate where
  | base (v : Word)
  | clkDiv (v : Byte)
  | fifoDepthWords (v : BitVec 16)
  | busWidth (v : BitVec 4)
  | sectorCount (v : Word)
  | cardType (v : Byte)
  | hsTiming (v : Byte)
deriving DecidableEq, Repr

/-- An assignment to a field of `st`. -/
inductive StUpdate where
  | state (v : FsmState)
  | blocks (v : BitVec 16)
  | sector (v : Word)
  | startTick (v : Nat)
  | timeoutTicks (v : Nat)
  | errState (v : ErrCode)
  | tempErr (v : ErrCode)
deriving DecidableEq, Repr

/-- One step of ENGINE or DISPATCHER: one register transaction or one engine-register update (00_scope.md rule R2). -/
inductive Micro where
  /-- `wr8`, `wr16` or `wr32` of a value. -/
  | write (r : Reg) (v : Word)
  /-- `loop s <- rd8(ISR) until s[0] = 1` (41_command_interface.md rule R165). -/
  | pollSent
  /-- `loop s <- rd8(ISR) until (s & 0x0E) != 0` (rule R167). -/
  | pollResponse
  /-- `loop c <- rd8(SBCSR) until c[0] = 1` (43_blocking_transfers.md rule R203). -/
  | pollDone
  /-- `b_n <- rd8(RRn)`, the byte appended to the payload (41_command_interface.md rule R168). -/
  | payloadByte (n : Fin 17)
  /-- `rd8(RRn)`, the byte appended to what `read_r2` has read (rule R170). -/
  | r2Byte (n : Fin 17)
  /-- `v <- rd8(VR)`, `inst.hw_major <- rd8(MJVR)`, `inst.hw_minor <- rd8(MIVR)` (42_initialization.md rule R182). DESIGN CHOICE
  (log entry 31): each of the last two, a read and an update of an engine register, is one step. -/
  | readVersion | readMajor | readMinor
  /-- `wr32(WDR, buf32[i])`, one round of the loop of 43_blocking_transfers.md rule R200. -/
  | fill (buf : Word) (i : Nat)
  /-- `buf32[i] <- rd32(RDR)`, one round of the loop of rule R201. -/
  | drain (dest : Dest) (i : Nat)
  /-- The three snapshot reads of 45_interrupt_state_machine.md rule R235. -/
  | snapIsr | snapSbisr | snapMbisr
  | setInst (u : InstUpdate)
  | setSt (u : StUpdate)
  /-- `initialised <- v`, the last line of `exit` (42_initialization.md rule R190): an `init` has reached its exit. -/
  | setInitialised (v : Bool)
deriving DecidableEq, Repr

/-- The locals of an operation or a delivery. -/
structure Locals where
  /-- `s`, the last value of `ISR` a poll read. -/
  polled : Byte
  /-- `c` of `poll_done`. -/
  doneBits : Byte
  /-- `b1 ‖ b2 ‖ b3 ‖ b4`. -/
  payload : Word
  /-- What `read_r2` has read, the last byte read lowest. -/
  r2 : BitVec 128
  /-- `v`, the value of `VR`. -/
  version : Byte
  /-- `x`, the scratch buffer of initialization step 7. -/
  scratch : List Word
  /-- `c`, `s`, `m`, the snapshot of a delivery. -/
  snapC : Byte
  snapS : Byte
  snapM : Byte
deriving DecidableEq, Repr

/-- An operation or a delivery in progress: the steps planned up to the next test, that test, and the locals. -/
structure Ctx where
  todo : List Micro
  point : Point
  locals : Locals
deriving DecidableEq, Repr

/-! ### The state -/

/-- Caller memory (20_memory.md rule R60): address and byte pairs in the canonical form of `Memory.wf`. -/
abbrev Memory := List Host.Cell

/-- The whole state. -/
structure State where
  /-- The parameters of 00_scope.md rule R5. No step changes them. -/
  cfg : Cfg
  /-- Engine registers (10_state.md rules R20 to R22). -/
  inst : Inst
  par : Params
  st : Status
  /-- Controller registers and hidden state (rules R27 to R47). -/
  regs : Regs
  hid : Hidden
  /-- `initialised` (rule R49), and whether an `init` has reached its exit (44_nonblocking_transfers.md rule R221). -/
  initialised : Bool
  initExited : Bool
  /-- `faulted` with the recorded reason (rule R49, 60_exceptions.md rule R266): `none` is false. -/
  faulted : Option AssertReason
  /-- The operation in progress in the caller's context, and the delivery in progress (rule R274); `none` is idle. -/
  engine : Option Ctx
  disp : Option Ctx
  /-- Caller memory, and the extents (base, bytes) of it that exist (20_memory.md rules R60, R67). -/
  mem : Memory
  callerMem : List (Nat × Nat)
  /-- The turns still to come: the schedule, HOST's requests and the environment's choices. The model's own. -/
  agenda : List Turn
  /-- The value last handed to HOST. The model's own. -/
  result : Option Ret
  /-- The words handed to DEVICE, in order (40_register_model.md rule R131). The model's own. -/
  deviceWords : List Word
  /-- How many draws have been made. The model's own; no statement rests on its value. -/
  draws : Nat
deriving DecidableEq, Repr

/-! ### Updates, one per field a step writes -/

def State.setInst (s : State) (v : Inst) : State := { s with inst := v }
def State.setPar (s : State) (v : Params) : State := { s with par := v }
def State.setSt (s : State) (v : Status) : State := { s with st := v }
def State.setRegs (s : State) (v : Regs) : State := { s with regs := v }
def State.setHid (s : State) (v : Hidden) : State := { s with hid := v }
def State.setInitialised (s : State) (v : Bool) : State := { s with initialised := v }
def State.setInitExited (s : State) (v : Bool) : State := { s with initExited := v }
def State.setFaulted (s : State) (v : Option AssertReason) : State := { s with faulted := v }
def State.setEngine (s : State) (v : Option Ctx) : State := { s with engine := v }
def State.setDisp (s : State) (v : Option Ctx) : State := { s with disp := v }
def State.setMem (s : State) (v : Memory) : State := { s with mem := v }
def State.setAgenda (s : State) (v : List Turn) : State := { s with agenda := v }
def State.setResult (s : State) (v : Option Ret) : State := { s with result := v }
def State.setDeviceWords (s : State) (v : List Word) : State := { s with deviceWords := v }
def State.setDraws (s : State) (v : Nat) : State := { s with draws := v }

/-! ### Reset (10_state.md rule R51, 70_reset_and_hazards.md rule R290) -/

/-- The response registers after reset: 0x00 each. -/
def RespRegs.reset : RespRegs :=
  ⟨0, 0, 0, 0, 0, 0, 0, 0, 0, 0, 0, 0, 0, 0, 0, 0, 0⟩

/-- The controller registers after reset. -/
def Regs.reset : Regs where
  cmdx := 0
  arg1 := 0
  arg2 := 0
  arg3 := 0
  arg4 := 0
  rr := RespRegs.reset
  imr := 0
  sbimr := 0
  mbimr := 0
  isr := 0
  sbisr := 0
  mbisr := 0
  clkoe := false
  clkr := 0
  datato := 0

/-- The hidden state after reset. -/
def Hidden.reset : Hidden where
  cmdPhase := .none
  curIndex := 0
  curArg := 0
  dataPhase := .none
  dataTier := .sb
  wordsLeft := 0
  wfifo := []
  rfifo := []

/-- The machine right after reset. The controller half, the two flags and the idle agents are rule R51's. DESIGN CHOICE
(log entry 1): the engine registers, which the spec leaves unspecified, hold zero, `Idle` and `TransferSuccess`; unsafe
for a claim that rests on one of those values. DESIGN CHOICE (log entries 2, 3, 6, 7, 8, 18, 19): `cfg` is the test vectors'
configuration, caller memory is the whole 32-bit space with nothing listed, and the model's own fields are empty. -/
def State.reset : State where
  cfg := Config.reference
  inst := ⟨0, 0, 0, 0, 0, 0, 0, 0, 0⟩
  par := ⟨0, 0⟩
  st := ⟨.idle, 0, 0, 0, 0, .transferSuccess, .transferSuccess⟩
  regs := Regs.reset
  hid := Hidden.reset
  initialised := false
  initExited := false
  faulted := none
  engine := none
  disp := none
  mem := []
  callerMem := [(0, 2 ^ 32)]
  agenda := []
  result := none
  deviceWords := []
  draws := 0

end Sys2Proof.Machine
end

