-- ==== Sys2Proof/Machine/Flags.lean ====
section
/-! DEFINITION. The fourteen latches (10_state.md rules R36, R37, R52), who sets and clears them, the interrupt line
(40_register_model.md rule R127), and DISPATCHER's reading of them (45_interrupt_state_machine.md rule R239). -/

namespace Sys2Proof.Machine

/-! ### Bit masks -/

/-- `ISR` bits (rule R36). -/
def maskSent : Byte := 0x01
def maskRrcv : Byte := 0x02
def maskRerr : Byte := 0x04
def maskSbe : Byte := 0x08
/-- `SBISR` and `MBISR` bits (rule R37). -/
def maskDone : Byte := 0x01
def maskCrcErr : Byte := 0x02
def maskCtrlErr : Byte := 0x04
def maskFto : Byte := 0x08
def maskUof : Byte := 0x10

/-- The implemented bits of the command tier and of a block tier (rules R35 to R37); the others are reserved. -/
def commandTierBits : Byte := 0x0F
def blockTierBits : Byte := 0x1F

/-! ### Setting and clearing -/

/-- CONTROLLER sets latches of `ISR`. -/
def raiseCommand (bits : Byte) (s : State) : State :=
  s.setRegs { s.regs with isr := s.regs.isr ||| bits }

/-- CONTROLLER, or a FIFO port, sets latches of a block tier. -/
def raiseBlock (t : Tier) (bits : Byte) (s : State) : State :=
  match t with
  | .sb => s.setRegs { s.regs with sbisr := s.regs.sbisr ||| bits }
  | .mb => s.setRegs { s.regs with mbisr := s.regs.mbisr ||| bits }

/-- An over-fill or under-fill sets `UOF` of both block tiers (40_register_model.md rules R116, R117). -/
def raiseUof (s : State) : State :=
  raiseBlock .mb maskUof (raiseBlock .sb maskUof s)

/-! ### The interrupt line -/

/-- `irq` (rule R127): some latch is set and unmasked. -/
def irq (s : State) : Bool :=
  ((s.regs.isr &&& s.regs.imr) ||| (s.regs.sbisr &&& s.regs.sbimr) ||| (s.regs.mbisr &&& s.regs.mbimr)) != 0#8

/-! ### DISPATCHER's reading of a snapshot -/

/-- `has_error(c, b)` (rule R239): `RERR` or `SBE`, or an error bit of the chain's tier. -/
def hasError (c b : Byte) : Bool :=
  (c &&& 0x0C#8) != 0#8 || (b &&& 0x1E#8) != 0#8

/-- `classify(c, b)` (rule R239): `FTO`, then the silence pattern, then the rest; `UOF` overrides. -/
def classify (c b : Byte) : ErrCode :=
  if b.getLsbD 4 then .userErrorFail
  else if b.getLsbD 3 then .timeoutFail
  else if (c &&& 0x0D#8) == 0x0D#8 then .noResponseFail
  else .otherFail

end Sys2Proof.Machine
end

