-- ==== Sys2Proof/Machine/Ops.lean ====
section
/-! DEFINITION. The named operations over caller memory and the register window, the assertion fault, the interrupt entry
and return, and how an operation starts and hands back its value. -/

namespace Sys2Proof.Machine

/-! ### Caller memory (20_memory.md rules R60, R67) -/

/-- What an unlisted byte of caller memory reads as. DESIGN CHOICE (log entry 7), unsafe: the spec says nothing of HOST's
memory before HOST writes it. -/
def Memory.unlisted : Byte := 0#8

/-- The canonical form: addresses strictly rising, no entry equal to what an unlisted byte reads as. -/
def Memory.wf : Memory → Bool
  | [] => true
  | [(_, b)] => b != Memory.unlisted
  | (k, b) :: (k', b') :: rest => b != Memory.unlisted && decide (k < k') && Memory.wf ((k', b') :: rest)

/-- The byte at an address. -/
def Memory.read (m : Memory) (a : Nat) : Byte :=
  match m with
  | [] => Memory.unlisted
  | (k, b) :: rest => if k = a then b else Memory.read rest a

/-- The entry for a byte, or nothing where it equals what an unlisted byte reads as. -/
def Memory.entry (a : Nat) (v : Byte) (rest : Memory) : Memory :=
  if v = Memory.unlisted then rest else (a, v) :: rest

/-- A byte written; the canonical form is kept. -/
def Memory.write (m : Memory) (a : Nat) (v : Byte) : Memory :=
  match m with
  | [] => Memory.entry a v []
  | (k, b) :: rest =>
    if a < k then Memory.entry a v ((k, b) :: rest)
    else if a = k then Memory.entry a v rest
    else (k, b) :: Memory.write rest a v

/-! ### The FIFOs (10_state.md rule R47) -/

/-- `cfg.fifo_depth_words(code)` (00_scope.md rule R5). -/
def fifoDepthWords (c : Cfg) (code : BitVec 2) : BitVec 16 :=
  match code.toNat with
  | 0 => c.fifoDepth0
  | 1 => c.fifoDepth1
  | 2 => c.fifoDepth2
  | _ => c.fifoDepth3

/-- The capacity of each FIFO, `cfg.fifo_depth_words(VR.FDEPTH)` (rule R47). -/
def fifoDepth (c : Cfg) : Nat :=
  (fifoDepthWords c (c.vrValue.extractLsb' 0 2)).toNat

/-! ### Reading a register -/

/-- The response register `RRn` (10_state.md rule R32). -/
def RespRegs.get (r : RespRegs) (n : Fin 17) : Byte :=
  match n.val with
  | 0 => r.rr0
  | 1 => r.rr1
  | 2 => r.rr2
  | 3 => r.rr3
  | 4 => r.rr4
  | 5 => r.rr5
  | 6 => r.rr6
  | 7 => r.rr7
  | 8 => r.rr8
  | 9 => r.rr9
  | 10 => r.rr10
  | 11 => r.rr11
  | 12 => r.rr12
  | 13 => r.rr13
  | 14 => r.rr14
  | 15 => r.rr15
  | _ => r.rr16

/-- A read of `SR` (40_register_model.md rule R110): a draw. -/
def readSr (s : State) : Word × State :=
  ((Config.draw8 s.draws).zext, s.setDraws (s.draws + 1))

/-- A read of `WDR` (rule R116): a draw, no effect. -/
def readWdr (s : State) : Word × State :=
  (Config.draw32 s.draws, s.setDraws (s.draws + 1))

/-- A read of `RDR` (rule R117): the head of the read FIFO; on under-fill a draw, and `UOF` in both block tiers. -/
def readRdr (s : State) : Word × State :=
  match s.hid.rfifo with
  | w :: rest => (w, s.setHid { s.hid with rfifo := rest })
  | [] => (Config.draw32 s.draws, raiseUof (s.setDraws (s.draws + 1)))

/-- `R8`, `R16` or `R32` of a register (40_register_model.md rules R110 to R125): the value, zero-extended, and the state
after. Only `RDR` has a side effect (20_memory.md rule R65). -/
def readReg (r : Reg) (s : State) : Word × State :=
  match r with
  | .sr => readSr s
  | .vr => (s.cfg.vrValue.zext, s)
  | .mjvr => (s.cfg.mjvrValue.zext, s)
  | .mivr => (s.cfg.mivrValue.zext, s)
  | .cmdx => (s.regs.cmdx.zext, s)
  | .arg1 => (s.regs.arg1.zext, s)
  | .arg2 => (s.regs.arg2.zext, s)
  | .arg3 => (s.regs.arg3.zext, s)
  | .arg4 => (s.regs.arg4.zext, s)
  | .rr n => ((s.regs.rr.get n).zext, s)
  | .wdr => readWdr s
  | .rdr => readRdr s
  | .imr => (s.regs.imr.zext, s)
  | .sbimr => (s.regs.sbimr.zext, s)
  | .mbimr => (s.regs.mbimr.zext, s)
  | .isr => (s.regs.isr.zext, s)
  | .sbisr => (s.regs.sbisr.zext, s)
  | .mbisr => (s.regs.mbisr.zext, s)
  | .icr => (0, s)
  | .sbicr => (0, s)
  | .mbicr => (0, s)
  | .ctrl => (if s.regs.clkoe then 2 else 0, s)
  | .sbcsr => ((s.regs.sbisr &&& 0x07#8).zext, s)
  | .mbcsr => ((s.regs.mbisr &&& 0x07#8).zext, s)
  | .clkr => (s.regs.clkr.zext, s)
  | .datato => (s.regs.datato, s)
  | .blr => (0x0200, s)

/-! ### Writing a register -/

/-- `SoftReset()` (40_register_model.md rule R137): the controller registers and the hidden state at their reset values,
everything else untouched. -/
def softReset (s : State) : State :=
  (s.setRegs Regs.reset).setHid Hidden.reset

/-- A write of `CTRL` (rule R121). -/
def writeCtrl (v : Byte) (s : State) : State :=
  if v.getLsbD 0 then softReset s
  else
    (s.setRegs { s.regs with clkoe := v.getLsbD 1 }).setHid
      { s.hid with
        wfifo := if v.getLsbD 2 then [] else s.hid.wfifo
        rfifo := if v.getLsbD 3 then [] else s.hid.rfifo }

/-- A write of `WDR` (rule R116): a push, or on over-fill the word is lost and `UOF` is set in both block tiers. -/
def writeWdr (v : Word) (s : State) : State :=
  if s.hid.wfifo.length < fifoDepth s.cfg then s.setHid { s.hid with wfifo := s.hid.wfifo ++ [v] }
  else raiseUof s

/-- A write of `ARG4` (rules R114, R136): the trigger. The command is latched at this instant (20_memory.md rule R74). -/
def writeArg4 (v : Byte) (s : State) : Except Refusal State :=
  if s.hid.cmdPhase ≠ .none then .error .commandInFlight
  else if respClass (s.regs.cmdx.extractLsb' 0 6) = none then .error .unknownIndex
  else .ok ((s.setRegs { s.regs with arg4 := v }).setHid
    { s.hid with
      curIndex := s.regs.cmdx.extractLsb' 0 6
      curArg := s.regs.arg1 ++ s.regs.arg2 ++ s.regs.arg3 ++ v
      cmdPhase := .sending })

/-- `W8`, `W16` or `W32` of a register (rules R110 to R125); the value is cut to the register's width. A write of a
read-only register does nothing. -/
def writeReg (r : Reg) (w : Word) (s : State) : Except Refusal State :=
  let v := w.lowByte
  match r with
  | .sr | .vr | .mjvr | .mivr | .rr _ | .rdr | .isr | .sbisr | .mbisr | .sbcsr | .mbcsr | .blr => .ok s
  | .cmdx => .ok (s.setRegs { s.regs with cmdx := v &&& 0x3F#8 })
  | .arg1 => .ok (s.setRegs { s.regs with arg1 := v })
  | .arg2 => .ok (s.setRegs { s.regs with arg2 := v })
  | .arg3 => .ok (s.setRegs { s.regs with arg3 := v })
  | .arg4 => writeArg4 v s
  | .wdr => .ok (writeWdr w s)
  | .imr => .ok (s.setRegs { s.regs with imr := v &&& commandTierBits })
  | .sbimr => .ok (s.setRegs { s.regs with sbimr := v &&& blockTierBits })
  | .mbimr => .ok (s.setRegs { s.regs with mbimr := v &&& blockTierBits })
  | .icr => .ok (s.setRegs { s.regs with isr := s.regs.isr &&& ~~~v })
  | .sbicr => .ok (s.setRegs { s.regs with sbisr := s.regs.sbisr &&& ~~~v })
  | .mbicr => .ok (s.setRegs { s.regs with mbisr := s.regs.mbisr &&& ~~~v })
  | .ctrl => .ok (writeCtrl v s)
  | .clkr => .ok (s.setRegs { s.regs with clkr := v })
  | .datato => .ok (s.setRegs { s.regs with datato := w })

/-! ### The assertion fault (60_exceptions.md rule R266) -/

/-- `raise AssertFault(reason)`: `faulted <- true`, the reason recorded, nothing else changed; there is no handler in the
block and no return. Every later step answers `Fault.assertFault` (log entry 9). -/
def raiseAssert (reason : AssertReason) (s : State) : Host.Outcome State Fault Refusal :=
  .next (s.setFaulted (some reason))

/-! ### Starting an operation and handing back a value (log entries 4 and 19) -/

/-- The locals at the start of an operation or a delivery. -/
def Locals.start : Locals :=
  ⟨0, 0, 0, 0, 0, [], 0, 0, 0⟩

/-- An operation begins in the caller's context: its planned steps and the point they lead to. -/
def startOperation (todo : List Micro) (point : Point) (s : State) : Host.Outcome State Fault Refusal :=
  .next ((s.setResult none).setEngine (some ⟨todo, point, Locals.start⟩))

/-- A request that ends at once, handing `v` to its requester. -/
def answer (v : Option Ret) (s : State) : Host.Outcome State Fault Refusal :=
  .next (s.setResult v)

/-- A register read requested by HOST: the value is handed to it at the register's own width. -/
def hostRead (r : Reg) (s : State) : Host.Outcome State Fault Refusal :=
  let (w, t) := readReg r s
  match r.size with
  | .byte => answer (some (.read8 w.lowByte)) t
  | .half => answer (some (.read16 (w.setWidth 16))) t
  | .word => answer (some (.read32 w)) t

/-- A register write requested by HOST. -/
def hostWrite (r : Reg) (w : Word) (s : State) : Host.Outcome State Fault Refusal :=
  match writeReg r w s with
  | .ok t => answer none t
  | .error e => .refused e

/-! ### Interrupt entry and return (60_exceptions.md rules R271, R272) -/

/-- The entry: control goes to the single entry point and nothing is saved, masked or cleared. The tests and the three
snapshot reads are 45_interrupt_state_machine.md rule R235's. -/
def enterInterrupt (iv : Bool) (s : State) : Host.Outcome State Fault Refusal :=
  if !iv then raiseAssert .nullInstance s
  else if !s.initExited then .refused .statusUnwritten
  else .next (s.setDisp (some ⟨[.snapIsr, .snapSbisr, .snapMbisr], .dispatch, Locals.start⟩))

/-- The return: the delivery ends and nothing is restored. -/
def leaveInterrupt (s : State) : State :=
  s.setDisp none

end Sys2Proof.Machine
end

