-- ==== Sys2Proof/Machine/Operands.lean ====
section
/-! DEFINITION. Every operand form: argument assembly (30_encoding.md rule R87), buffer words (20_memory.md rule R67),
Extended-CSD bytes (42_initialization.md rule R189), the response parser (41_command_interface.md rules R168 to R172), the
chains' parameters (45_interrupt_state_machine.md rule R247), and the enumerations as numbers (30_encoding.md rules R96,
R97). -/

namespace Sys2Proof.Machine

/-! ### Command arguments (rule R87) -/

def argZero : Word := 0#32

/-- `cfg.RCA ‖ 0x0000`. -/
def argRca (c : Cfg) : Word := c.rca ++ 0#16

/-- `zext_32(n)`. -/
def argCount (n : BitVec 16) : Word := n.setWidth 32

/-- `0b000000 ‖ 0b11 ‖ idx ‖ val ‖ 0b00000 ‖ 0b000` (rules R87, R92). -/
def argSwitch (idx val : Byte) : Word := 0#6 ++ 3#2 ++ idx ++ val ++ 0#8

/-! ### Bit fields (00_scope.md rule R6) -/

/-- `v[hi:lo]`, at the low end of a word. -/
def field (v : Word) (hi lo : Nat) : Word :=
  (v >>> lo) &&& BitVec.ofNat 32 (2 ^ (hi + 1 - lo) - 1)

/-! ### The response parser -/

/-- `parse_r1` (41_command_interface.md rule R169). -/
def parseR1 (c : Cfg) (cs : Word) : CmdResult :=
  if (cs &&& c.r1ErrorMask) != 0#32 then .fail
  else if !cs.getLsbD c.r1ReadyBit then .busy
  else .success

/-- `cur_state` (rule R172). -/
def curState (c : Cfg) (cs : Word) : Word := field cs c.r1StateHi c.r1StateLo

/-- `ocr_ready` (rule R171). -/
def ocrReady (c : Cfg) (o : Word) : Bool := o.getLsbD c.ocrReadyBit

/-- `ocr_mode` (rule R171). -/
def ocrMode (c : Cfg) (o : Word) : Word := field o c.ocrModeHi c.ocrModeLo

/-- A payload byte appended to the bytes read so far (rule R168: `b1 ‖ b2 ‖ b3 ‖ b4`). -/
def appendByte (p : Word) (b : Byte) : Word := p.extractLsb' 0 24 ++ b

/-- A byte of an R2 response appended to those read so far (rule R170: `RR1 ‖ … ‖ RR16`). -/
def appendR2 (p : BitVec 128) (b : Byte) : BitVec 128 := p.extractLsb' 0 120 ++ b

/-! ### The caller's buffer (20_memory.md rule R67) -/

/-- `buf32[i]` of the buffer at `b`. -/
def bufWord (le : Bool) (m : Memory) (b : Word) (i : Nat) : Word :=
  let a := b.toNat + 4 * i
  wordOfBytes le (m.read a) (m.read (a + 1)) (m.read (a + 2)) (m.read (a + 3))

/-- Bytes written from an address upwards. -/
def writeBytes (m : Memory) (a : Nat) : List Byte → Memory
  | [] => m
  | b :: rest => writeBytes (m.write a b) (a + 1) rest

/-- `buf32[i] <- w`. -/
def setBufWord (le : Bool) (m : Memory) (b : Word) (i : Nat) (w : Word) : Memory :=
  writeBytes m (b.toNat + 4 * i) (bytesOfWord le w)

/-- The address is 4-byte aligned and a sector's bytes of caller memory stand there (rule R67, 43_blocking_transfers.md rule
R202): inside one extent that HOST's memory has, and outside the register window, which is another address space (rule
R60; log entry 8). -/
def bufferFits (s : State) (b : Word) : Bool :=
  b.toNat % 4 == 0
  && s.callerMem.any (fun e => e.1 ≤ b.toNat && b.toNat + s.cfg.sectorBytes ≤ e.1 + e.2)
  && (b.toNat + s.cfg.sectorBytes ≤ s.cfg.base.toNat || s.cfg.base.toNat + 0x52 ≤ b.toNat)

/-! ### The Extended CSD (30_encoding.md rule R93, 42_initialization.md rule R189) -/

/-- `byte(k)` of the scratch buffer. A byte outside the buffer reads 0 (log entry 27: no well-formed `cfg` asks for one). -/
def csdByte (le : Bool) (x : List Word) (k : Nat) : Byte :=
  let w := x.getD (k / 4) 0#32
  if le then w.extractLsb' (8 * (k % 4)) 8 else w.extractLsb' (24 - 8 * (k % 4)) 8

/-- The sector count, four bytes, byte `s` the least significant. -/
def csdSectorCount (c : Cfg) (x : List Word) : Word :=
  csdByte c.littleEndian x (c.extCsdSecCount + 3) ++ csdByte c.littleEndian x (c.extCsdSecCount + 2)
  ++ csdByte c.littleEndian x (c.extCsdSecCount + 1) ++ csdByte c.littleEndian x c.extCsdSecCount

/-! ### The version register (10_state.md rule R28, 42_initialization.md rule R182) -/

/-- `REV` recognised and `DWIDTH` a width. -/
def versionRecognised (c : Cfg) (v : Byte) : Bool :=
  c.supportedRev.contains (v.extractLsb' 4 4) && v.extractLsb' 2 2 != 3#2

/-- The data width in bits: 1, 4 or 8. -/
def dataWidth (v : Byte) : BitVec 4 :=
  match (v.extractLsb' 2 2).toNat with
  | 0 => 1#4
  | 1 => 4#4
  | _ => 8#4

/-! ### The chains (45_interrupt_state_machine.md rule R247) -/

def Chain.tier : Chain → Tier
  | .sw | .sr | .xr => .sb
  | .mw | .mr => .mb

def Chain.multi : Chain → Bool
  | .sw | .sr | .xr => false
  | .mw | .mr => true

/-- `data_cmd(X)`. -/
def Chain.dataCmd : Chain → BitVec 6
  | .sw => 24#6 | .mw => 25#6 | .sr => 17#6 | .mr => 18#6 | .xr => 8#6

/-- `data_arg(X)`. -/
def Chain.dataArg (x : Chain) (sector : Word) : Word :=
  match x with
  | .sw | .mw | .sr | .mr => sector
  | .xr => argZero

/-- `fail_code(X)`. -/
def Chain.failCode : Chain → ErrCode
  | .sw => .sbWriteFail | .mw => .mbWriteFail | .sr => .sbReadFail | .mr => .mbReadFail | .xr => .sbReadFail

/-- `X.ParseStatus`. -/
def Chain.parseStatus : Chain → FsmState
  | .sw => .swParseStatus | .mw => .mwParseStatus | .sr => .srParseStatus | .mr => .mrParseStatus
  | .xr => .xrParseStatus

/-- `X.IssueData`. -/
def Chain.issueData : Chain → FsmState
  | .sw => .swIssueData | .mw => .mwIssueData | .sr => .srIssueData | .mr => .mrIssueData | .xr => .xrIssueData

/-- `X.AwaitDone`. -/
def Chain.awaitDone : Chain → FsmState
  | .sw => .swAwaitDone | .mw => .mwAwaitDone | .sr => .srAwaitDone | .mr => .mrAwaitDone | .xr => .xrAwaitDone

/-- The state after the CMD13 checkpoint (rule R242): `ParseBlockCount` of a multi chain, else `IssueData`. -/
def Chain.afterStatus : Chain → FsmState
  | .mw => .mwParseBlockCount | .mr => .mrParseBlockCount
  | .sw => .swIssueData | .sr => .srIssueData | .xr => .xrIssueData

/-- The chain and the step of a state; `none` for the three shared states. -/
def FsmState.chain? : FsmState → Option (Chain × ChainStep)
  | .idle | .error | .stopTransmission => none
  | .swParseStatus => some (.sw, .parseStatus)
  | .swIssueData => some (.sw, .issueData)
  | .swAwaitDone => some (.sw, .awaitDone)
  | .mwParseStatus => some (.mw, .parseStatus)
  | .mwParseBlockCount => some (.mw, .parseBlockCount)
  | .mwIssueData => some (.mw, .issueData)
  | .mwAwaitDone => some (.mw, .awaitDone)
  | .srParseStatus => some (.sr, .parseStatus)
  | .srIssueData => some (.sr, .issueData)
  | .srAwaitDone => some (.sr, .awaitDone)
  | .mrParseStatus => some (.mr, .parseStatus)
  | .mrParseBlockCount => some (.mr, .parseBlockCount)
  | .mrIssueData => some (.mr, .issueData)
  | .mrAwaitDone => some (.mr, .awaitDone)
  | .xrParseStatus => some (.xr, .parseStatus)
  | .xrIssueData => some (.xr, .issueData)
  | .xrAwaitDone => some (.xr, .awaitDone)

/-! ### Ticks (44_nonblocking_transfers.md rule R221, 60_exceptions.md rule R275) -/

/-- A tick operand: the low `cfg.TICK_BITS` bits of its word (log entry 11). -/
def tickOf (c : Cfg) (w : Word) : Nat := w.toNat % 2 ^ c.tickBits

/-- `now − start`, wrapping modulo 2^`cfg.TICK_BITS`. -/
def elapsed (c : Cfg) (now start : Nat) : Nat :=
  (now + 2 ^ c.tickBits - start % 2 ^ c.tickBits) % 2 ^ c.tickBits

/-- `2^cfg.TICK_BITS − 1`, the budget nothing exceeds (42_initialization.md rule R190). -/
def maxTicks (c : Cfg) : Nat := 2 ^ c.tickBits - 1

/-- `applies and (now − st.start_tick) > st.timeout_ticks`: wrapping subtraction, unsigned strict compare. -/
def statusTimedOut (now : Word) (s : State) : Bool :=
  (s.cfg.timeoutScope == .always || s.st.errState == .processing)
  && decide (s.st.timeoutTicks < elapsed s.cfg (tickOf s.cfg now) s.st.startTick)

/-! ### Enumerations as numbers -/

/-- ErrCode in 5 bits (30_encoding.md rule R96). -/
def ErrCode.number : ErrCode → BitVec 5
  | .transferSuccess => 0 | .initSuccess => 1 | .processing => 2 | .unsupportedHwRevision => 3 | .opCondErr => 4
  | .rcaError => 5 | .cidRespErr => 6 | .dwidthErr => 7 | .resetErr => 8 | .clkDivErr => 9 | .crcErr => 10
  | .readCtrlErr => 11 | .sbWriteFail => 12 | .mbWriteFail => 13 | .sbReadFail => 14 | .mbReadFail => 15
  | .timeoutFail => 16 | .noResponseFail => 17 | .userErrorFail => 18 | .otherFail => 19 | .appTimeoutFail => 20
  | .intStatusFail => 21

/-- FsmState in 5 bits (rule R97). -/
def FsmState.number : FsmState → BitVec 5
  | .idle => 0 | .error => 1 | .stopTransmission => 2
  | .swParseStatus => 3 | .swIssueData => 4 | .swAwaitDone => 5
  | .mwParseStatus => 6 | .mwParseBlockCount => 7 | .mwIssueData => 8 | .mwAwaitDone => 9
  | .srParseStatus => 10 | .srIssueData => 11 | .srAwaitDone => 12
  | .mrParseStatus => 13 | .mrParseBlockCount => 14 | .mrIssueData => 15 | .mrAwaitDone => 16
  | .xrParseStatus => 17 | .xrIssueData => 18 | .xrAwaitDone => 19

/-- CmdResult as a number (rule R97). -/
def CmdResult.number : CmdResult → BitVec 2
  | .success => 0 | .busy => 1 | .fail => 2

/-- The number of an assertion cause (60_exceptions.md rule R266). -/
def AssertReason.cause : AssertReason → Nat
  | .nullInstance => 1 | .zeroBlockCount => 2 | .zeroTimeout => 3

end Sys2Proof.Machine
end

