-- ==== Sys2Proof/Machine/Controller.lean ====
section
/-! DEFINITION. CONTROLLER: the events of 40_register_model.md rules R128 to R134. Each is one atomic step; `none` means its
precondition does not hold. The choices of rule R135 are the event's operands. -/

namespace Sys2Proof.Machine

/-- `! CmdSent` (rule R128). -/
def cmdSent (s : State) : Option State :=
  if s.hid.cmdPhase = .sending then
    some (raiseCommand maskSent (s.setHid
      { s.hid with
        cmdPhase := if respClass s.hid.curIndex = some .none then .none else .awaitingResponse }))
  else none

/-- How the response registers are loaded (rule R129): a 48-bit response fills `RR0` to `RR5` and leaves the others, a
136-bit one fills all seventeen. -/
def loadResponse (r : RespRegs) : Resp → RespRegs
  | .short p =>
    { r with
      rr0 := p.extractLsb' 40 8
      rr1 := p.extractLsb' 32 8
      rr2 := p.extractLsb' 24 8
      rr3 := p.extractLsb' 16 8
      rr4 := p.extractLsb' 8 8
      rr5 := p.extractLsb' 0 8 }
  | .long p =>
    { rr0 := p.extractLsb' 128 8
      rr1 := p.extractLsb' 120 8
      rr2 := p.extractLsb' 112 8
      rr3 := p.extractLsb' 104 8
      rr4 := p.extractLsb' 96 8
      rr5 := p.extractLsb' 88 8
      rr6 := p.extractLsb' 80 8
      rr7 := p.extractLsb' 72 8
      rr8 := p.extractLsb' 64 8
      rr9 := p.extractLsb' 56 8
      rr10 := p.extractLsb' 48 8
      rr11 := p.extractLsb' 40 8
      rr12 := p.extractLsb' 32 8
      rr13 := p.extractLsb' 24 8
      rr14 := p.extractLsb' 16 8
      rr15 := p.extractLsb' 8 8
      rr16 := p.extractLsb' 0 8 }

/-- The length the class of the command in flight calls for (rules R88, R129). -/
def lengthFits (index : BitVec 6) (p : Resp) : Bool :=
  match respClass index, p with
  | some .r1, .short _ | some .r1b, .short _ | some .r3, .short _ => true
  | some .r2, .long _ => true
  | _, _ => false

/-- The fields a response of the class carries besides its payload (rule R88): start and transmission bits 0; the command's
index in an R1 or R1b response, six ones in an R2 or R3; an end bit 1; in an R3 also seven ones where the others have a CRC7.
The CRC7 is DEVICE's (log entry 30). -/
def layoutFits (index : BitVec 6) : Resp → Bool
  | .short p =>
    p.extractLsb' 46 2 == 0#2 && p.getLsbD 0
    && (if respClass index = some .r3 then p.extractLsb' 40 6 == 0x3F#6 && p.extractLsb' 1 7 == 0x7F#7
        else p.extractLsb' 40 6 == index)
  | .long p => p.extractLsb' 134 2 == 0#2 && p.extractLsb' 128 6 == 0x3F#6 && p.getLsbD 0

/-- `p` is a response to the command of this index: the length and the layout of its class (rule R88). -/
def responseFits (index : BitVec 6) (p : Resp) : Bool :=
  lengthFits index p && layoutFits index p

/-- The data phase a response opens or ends (rule R129, `case cur_index`); `n` is the block count of a multiple-block
command, a block `cfg.BLOCK_WORDS` words. -/
def startDataPhase (c : Cfg) (h : Hidden) (n : Nat) : Hidden :=
  match h.curIndex.toNat with
  | 24 => { h with dataPhase := .write, dataTier := .sb, wordsLeft := c.blockWords }
  | 25 => { h with dataPhase := .write, dataTier := .mb, wordsLeft := c.blockWords * n }
  | 17 | 8 => { h with dataPhase := .read, dataTier := .sb, wordsLeft := c.blockWords }
  | 18 => { h with dataPhase := .read, dataTier := .mb, wordsLeft := c.blockWords * n }
  | 12 => { h with dataPhase := .none, wordsLeft := 0 }
  | _ => h

/-- The multiple-block commands, whose answer comes with a block count `n ≥ 1` (rule R129). -/
def countFits (index : BitVec 6) (n : Nat) : Bool :=
  (index != 18#6 && index != 25#6) || decide (1 ≤ n)

/-- `! RespOk p` (rule R129): `p` is a response of rule R88; one that arrived with another index or damaged is `RespFail`'s (rule
R130, 10_state.md rule R36; log entry 30). `n` is the environment's (log entry 20). -/
def respOk (p : Resp) (n : Nat) (s : State) : Option State :=
  if s.hid.cmdPhase = .awaitingResponse ∧ responseFits s.hid.curIndex p ∧ countFits s.hid.curIndex n then
    some (raiseCommand maskRrcv
      ((s.setRegs { s.regs with rr := loadResponse s.regs.rr p }).setHid
        (startDataPhase s.cfg { s.hid with cmdPhase := .none } n)))
  else none

/-- `! RespFail silent` and `! RespFail noisy` (rule R130). -/
def respFail (silent : Bool) (s : State) : Option State :=
  if s.hid.cmdPhase = .awaitingResponse then
    some (raiseCommand (if silent then maskRerr ||| maskSbe else maskRerr)
      (s.setHid { s.hid with cmdPhase := .none }))
  else none

/-- `! WordOut` (rule R131): the head of the write FIFO goes to DEVICE. -/
def wordOut (s : State) : Option State :=
  match s.hid.wfifo with
  | [] => none
  | w :: rest =>
    if s.hid.dataPhase = .write ∧ 0 < s.hid.wordsLeft then
      some ((s.setHid { s.hid with wfifo := rest, wordsLeft := s.hid.wordsLeft - 1 }).setDeviceWords
        (s.deviceWords ++ [w]))
    else none

/-- `! WordIn w` (rule R132). -/
def wordIn (w : Word) (s : State) : Option State :=
  if s.hid.dataPhase = .read ∧ 0 < s.hid.wordsLeft ∧ s.hid.rfifo.length < fifoDepth s.cfg then
    some (s.setHid { s.hid with rfifo := s.hid.rfifo ++ [w], wordsLeft := s.hid.wordsLeft - 1 })
  else none

/-- `! DataDone crc ctrl` (rule R133). -/
def dataDone (crc ctrl : Bool) (s : State) : Option State :=
  if s.hid.dataPhase ≠ .none ∧ (s.hid.wordsLeft = 0 ∨ crc ∨ ctrl) then
    some (raiseBlock s.hid.dataTier
      (maskDone ||| (if crc then maskCrcErr else 0) ||| (if ctrl then maskCtrlErr else 0))
      (s.setHid { s.hid with dataPhase := .none, wordsLeft := 0 }))
  else none

/-- The data path waits on a FIFO (rule R134). -/
def starved (s : State) : Bool :=
  match s.hid.dataPhase with
  | .none => false
  | .write => decide (0 < s.hid.wordsLeft) && s.hid.wfifo.isEmpty
  | .read => decide (0 < s.hid.wordsLeft) && decide (fifoDepth s.cfg ≤ s.hid.rfifo.length)

/-- `! FifoTimeout` (rule R134). -/
def fifoTimeout (s : State) : Option State :=
  if starved s then
    some (raiseBlock s.hid.dataTier maskFto (s.setHid { s.hid with dataPhase := .none }))
  else none

/-- One event; `none` where it is not enabled. -/
def controllerStep (e : Event) (s : State) : Option State :=
  match e with
  | .cmdSent => cmdSent s
  | .respOk p n => respOk p n s
  | .respFail silent => respFail silent s
  | .wordOut => wordOut s
  | .wordIn w => wordIn w s
  | .dataDone crc ctrl => dataDone crc ctrl s
  | .fifoTimeout => fifoTimeout s

end Sys2Proof.Machine
end

