-- ==== Sys2Proof/Machine/Steps.lean ====
section
/-! DEFINITION. One step of ENGINE or DISPATCHER (00_scope.md rule R2): one register transaction or one engine-register
update. And the step sequences the pseudocode names: `clear_all`, `mask_all`, the five writes of `send_command`. -/

namespace Sys2Proof.Machine

/-! ### Named sequences -/

/-- `clear_all()` (41_command_interface.md rule R166). -/
def clearAll : List Micro :=
  [.write .icr 0xFF, .write .sbicr 0xFF, .write .mbicr 0xFF]

/-- `mask_all()` (44_nonblocking_transfers.md rule R226). -/
def maskAll : List Micro :=
  [.write .imr 0x00, .write .sbimr 0x00, .write .mbimr 0x00]

/-- The five writes of `send_command` (rule R165): opcode, then the argument from its most significant byte; the last
triggers. -/
def fiveWrites (index : BitVec 6) (arg : Word) : List Micro :=
  [.write .cmdx (index.setWidth 32),
   .write .arg1 (Byte.zext (arg.extractLsb' 24 8)),
   .write .arg2 (Byte.zext (arg.extractLsb' 16 8)),
   .write .arg3 (Byte.zext (arg.extractLsb' 8 8)),
   .write .arg4 (Byte.zext (arg.extractLsb' 0 8))]

/-- `send_command(arg, index, policy)` (rule R165) without its index test. -/
def sendCommand (arg : Word) (index : BitVec 6) (policy : Policy) : List Micro :=
  fiveWrites index arg ++
    match policy with
    | .poll => [.pollSent]
    | .isrCheck => []
    | .none => []

/-- `read_payload32()` (rule R168). -/
def readPayload32 : List Micro :=
  [.payloadByte 1, .payloadByte 2, .payloadByte 3, .payloadByte 4]

/-- `read_r2()` (rule R170). -/
def readR2 : List Micro :=
  [.r2Byte 1, .r2Byte 2, .r2Byte 3, .r2Byte 4, .r2Byte 5, .r2Byte 6, .r2Byte 7, .r2Byte 8,
   .r2Byte 9, .r2Byte 10, .r2Byte 11, .r2Byte 12, .r2Byte 13, .r2Byte 14, .r2Byte 15, .r2Byte 16]

/-- `for i do wr32(WDR, buf32[i])` over the words of a block (43_blocking_transfers.md rule R200). -/
def fillBlock (c : Cfg) (buf : Word) : List Micro :=
  (List.range c.blockWords).map (.fill buf)

/-- `for i do buf32[i] <- rd32(RDR)` over the words of a block (rule R201). -/
def drainBlock (c : Cfg) (dest : Dest) : List Micro :=
  (List.range c.blockWords).map (.drain dest)

/-! ### One step -/

/-- What a step leaves: the steps put in front of the rest (itself again while a loop goes on), the locals, the state; or
a refusal. -/
inductive StepResult where
  | next (more : List Micro) (l : Locals) (s : State)
  | refused (r : Refusal)
deriving DecidableEq, Repr

/-- An assignment to a field of `inst` (10_state.md rule R20). -/
def updateInst (u : InstUpdate) (i : Inst) : Inst :=
  match u with
  | .base v => { i with base := v }
  | .clkDiv v => { i with clkDiv := v }
  | .fifoDepthWords v => { i with fifoDepthWords := v }
  | .busWidth v => { i with busWidth := v }
  | .sectorCount v => { i with sectorCount := v }
  | .cardType v => { i with cardType := v }
  | .hsTiming v => { i with hsTiming := v }

/-- An assignment to a field of `st` (rule R22). -/
def updateSt (u : StUpdate) (t : Status) : Status :=
  match u with
  | .state v => { t with state := v }
  | .blocks v => { t with blocks := v }
  | .sector v => { t with sector := v }
  | .startTick v => { t with startTick := v }
  | .timeoutTicks v => { t with timeoutTicks := v }
  | .errState v => { t with errState := v }
  | .tempErr v => { t with tempErr := v }

/-- The byte and the state a 1-byte read gives. -/
def readByte (r : Reg) (s : State) : Byte × State :=
  let (w, t) := readReg r s
  (w.lowByte, t)

/-- One step. A line that reads a register into an engine register (`readMajor`, `readMinor`) is one step, where rule R2 counts
transactions and updates: DESIGN CHOICE (log entry 31). The three polling loops stay where they are while their condition is false (10_state.md rule R50). -/
def microStep (m : Micro) (l : Locals) (s : State) : StepResult :=
  match m with
  | .write r v =>
    match writeReg r v s with
    | .ok t => .next [] l t
    | .error e => .refused e
  | .pollSent =>
    let (b, t) := readByte .isr s
    .next (if b.getLsbD 0 then [] else [.pollSent]) { l with polled := b } t
  | .pollResponse =>
    let (b, t) := readByte .isr s
    .next (if (b &&& 0x0E#8) != 0#8 then [] else [.pollResponse]) { l with polled := b } t
  | .pollDone =>
    let (b, t) := readByte .sbcsr s
    .next (if b.getLsbD 0 then [] else [.pollDone]) { l with doneBits := b } t
  | .payloadByte n =>
    let (b, t) := readByte (.rr n) s
    .next [] { l with payload := appendByte l.payload b } t
  | .r2Byte n =>
    let (b, t) := readByte (.rr n) s
    .next [] { l with r2 := appendR2 l.r2 b } t
  | .readVersion =>
    let (b, t) := readByte .vr s
    .next [] { l with version := b } t
  | .readMajor =>
    let (b, t) := readByte .mjvr s
    .next [] l (t.setInst { t.inst with hwMajor := b })
  | .readMinor =>
    let (b, t) := readByte .mivr s
    .next [] l (t.setInst { t.inst with hwMinor := b })
  | .fill buf i =>
    match writeReg .wdr (bufWord s.cfg.littleEndian s.mem buf i) s with
    | .ok t => .next [] l t
    | .error e => .refused e
  | .drain dest i =>
    let (w, t) := readReg .rdr s
    match dest with
    | .caller buf => .next [] l (t.setMem (setBufWord t.cfg.littleEndian t.mem buf i w))
    | .scratch => .next [] { l with scratch := l.scratch ++ [w] } t
  | .snapIsr =>
    let (b, t) := readByte .isr s
    .next [] { l with snapC := b } t
  | .snapSbisr =>
    let (b, t) := readByte .sbisr s
    .next [] { l with snapS := b } t
  | .snapMbisr =>
    let (b, t) := readByte .mbisr s
    .next [] { l with snapM := b } t
  | .setInst u => .next [] l (s.setInst (updateInst u s.inst))
  | .setSt u => .next [] l (s.setSt (updateSt u s.st))
  | .setInitialised v => .next [] l ((s.setInitialised v).setInitExited true)

/-- Where the pseudocode goes at a test: on with more planned steps, or to its end. -/
inductive Decision where
  | run (todo : List Micro) (point : Point) (l : Locals)
  | finish (v : Option Ret)
deriving DecidableEq, Repr

end Sys2Proof.Machine
end

