-- ==== Sys2Proof/Machine/Commands.lean ====
section
/-! DEFINITION. Format `CMD`: an eMMC command sent by HOST (41_command_interface.md rules R151 to R164). Sending any command
means the five register writes of rule R165 (30_encoding.md rule R99), five transactions and not one (20_memory.md rule
R64): they are planned here and taken one step at a time, so CONTROLLER and DISPATCHER may act between them
(70_reset_and_hazards.md rule R306). The last write triggers (40_register_model.md rule R114). -/

namespace Sys2Proof.Machine

/-- The five writes of a command, in the caller's context. -/
def hostSend (index : BitVec 6) (arg : Word) (s : State) : Host.Outcome State Fault Refusal :=
  startOperation (fiveWrites index arg) (.ret none) s

/-- GO_IDLE_STATE (rule R151). -/
def execGoIdleState (arg : Word) (s : State) : Host.Outcome State Fault Refusal :=
  hostSend 0#6 arg s

/-- SEND_OP_COND (rule R152). -/
def execSendOpCond (arg : Word) (s : State) : Host.Outcome State Fault Refusal :=
  hostSend 1#6 arg s

/-- ALL_SEND_CID (rule R153). -/
def execAllSendCid (arg : Word) (s : State) : Host.Outcome State Fault Refusal :=
  hostSend 2#6 arg s

/-- SET_RELATIVE_ADDR (rule R154). -/
def execSetRelativeAddr (arg : Word) (s : State) : Host.Outcome State Fault Refusal :=
  hostSend 3#6 arg s

/-- SWITCH (rule R155). -/
def execSwitch (arg : Word) (s : State) : Host.Outcome State Fault Refusal :=
  hostSend 6#6 arg s

/-- SELECT_CARD (rule R156). -/
def execSelectCard (arg : Word) (s : State) : Host.Outcome State Fault Refusal :=
  hostSend 7#6 arg s

/-- SEND_EXT_CSD (rule R157). -/
def execSendExtCsd (arg : Word) (s : State) : Host.Outcome State Fault Refusal :=
  hostSend 8#6 arg s

/-- STOP_TRANSMISSION (rule R158). -/
def execStopTransmission (arg : Word) (s : State) : Host.Outcome State Fault Refusal :=
  hostSend 12#6 arg s

/-- SEND_STATUS (rule R159). -/
def execSendStatus (arg : Word) (s : State) : Host.Outcome State Fault Refusal :=
  hostSend 13#6 arg s

/-- READ_SINGLE_BLOCK (rule R160). -/
def execReadSingleBlock (arg : Word) (s : State) : Host.Outcome State Fault Refusal :=
  hostSend 17#6 arg s

/-- READ_MULTIPLE_BLOCK (rule R161). -/
def execReadMultipleBlock (arg : Word) (s : State) : Host.Outcome State Fault Refusal :=
  hostSend 18#6 arg s

/-- SET_BLOCK_COUNT (rule R162). -/
def execSetBlockCount (arg : Word) (s : State) : Host.Outcome State Fault Refusal :=
  hostSend 23#6 arg s

/-- WRITE_SINGLE_BLOCK (rule R163). -/
def execWriteSingleBlock (arg : Word) (s : State) : Host.Outcome State Fault Refusal :=
  hostSend 24#6 arg s

/-- WRITE_MULTIPLE_BLOCK (rule R164). -/
def execWriteMultipleBlock (arg : Word) (s : State) : Host.Outcome State Fault Refusal :=
  hostSend 25#6 arg s

end Sys2Proof.Machine
end

