-- ==== Sys2Proof/Machine/Registers.lean ====
section
/-! DEFINITION. Format `REG`: a register transaction requested by HOST (40_register_model.md rules R110 to R125). Each reads
or writes its whole register at one instant (20_memory.md rule R64); the value read is handed to HOST. What the access does
is `readReg` or `writeReg`, shared with ENGINE and DISPATCHER. -/

namespace Sys2Proof.Machine

/-- `R8 SR` (rule R110). -/
def execR8Sr (s : State) : Host.Outcome State Fault Refusal :=
  hostRead .sr s

/-- `W8 SR, v` (rule R110). -/
def execW8Sr (v : BitVec 8) (s : State) : Host.Outcome State Fault Refusal :=
  hostWrite .sr (v.setWidth 32) s

/-- `R8 VR` (rule R111). -/
def execR8Vr (s : State) : Host.Outcome State Fault Refusal :=
  hostRead .vr s

/-- `W8 VR, v` (rule R111). -/
def execW8Vr (v : BitVec 8) (s : State) : Host.Outcome State Fault Refusal :=
  hostWrite .vr (v.setWidth 32) s

/-- `R8 MJVR` (rule R111). -/
def execR8Mjvr (s : State) : Host.Outcome State Fault Refusal :=
  hostRead .mjvr s

/-- `W8 MJVR, v` (rule R111). -/
def execW8Mjvr (v : BitVec 8) (s : State) : Host.Outcome State Fault Refusal :=
  hostWrite .mjvr (v.setWidth 32) s

/-- `R8 MIVR` (rule R111). -/
def execR8Mivr (s : State) : Host.Outcome State Fault Refusal :=
  hostRead .mivr s

/-- `W8 MIVR, v` (rule R111). -/
def execW8Mivr (v : BitVec 8) (s : State) : Host.Outcome State Fault Refusal :=
  hostWrite .mivr (v.setWidth 32) s

/-- `R8 CMDX` (rule R112). -/
def execR8Cmdx (s : State) : Host.Outcome State Fault Refusal :=
  hostRead .cmdx s

/-- `W8 CMDX, v` (rule R112). -/
def execW8Cmdx (v : BitVec 8) (s : State) : Host.Outcome State Fault Refusal :=
  hostWrite .cmdx (v.setWidth 32) s

/-- `R8 ARG1` (rule R113). -/
def execR8Arg1 (s : State) : Host.Outcome State Fault Refusal :=
  hostRead .arg1 s

/-- `W8 ARG1, v` (rule R113). -/
def execW8Arg1 (v : BitVec 8) (s : State) : Host.Outcome State Fault Refusal :=
  hostWrite .arg1 (v.setWidth 32) s

/-- `R8 ARG2` (rule R113). -/
def execR8Arg2 (s : State) : Host.Outcome State Fault Refusal :=
  hostRead .arg2 s

/-- `W8 ARG2, v` (rule R113). -/
def execW8Arg2 (v : BitVec 8) (s : State) : Host.Outcome State Fault Refusal :=
  hostWrite .arg2 (v.setWidth 32) s

/-- `R8 ARG3` (rule R113). -/
def execR8Arg3 (s : State) : Host.Outcome State Fault Refusal :=
  hostRead .arg3 s

/-- `W8 ARG3, v` (rule R113). -/
def execW8Arg3 (v : BitVec 8) (s : State) : Host.Outcome State Fault Refusal :=
  hostWrite .arg3 (v.setWidth 32) s

/-- `R8 ARG4` (rule R114). -/
def execR8Arg4 (s : State) : Host.Outcome State Fault Refusal :=
  hostRead .arg4 s

/-- `W8 ARG4, v` (rule R114). -/
def execW8Arg4 (v : BitVec 8) (s : State) : Host.Outcome State Fault Refusal :=
  hostWrite .arg4 (v.setWidth 32) s

/-- `R8 RR0` (rule R115). -/
def execR8Rr0 (s : State) : Host.Outcome State Fault Refusal :=
  hostRead (.rr 0) s

/-- `W8 RR0, v` (rule R115). -/
def execW8Rr0 (v : BitVec 8) (s : State) : Host.Outcome State Fault Refusal :=
  hostWrite (.rr 0) (v.setWidth 32) s

/-- `R8 RR1` (rule R115). -/
def execR8Rr1 (s : State) : Host.Outcome State Fault Refusal :=
  hostRead (.rr 1) s

/-- `W8 RR1, v` (rule R115). -/
def execW8Rr1 (v : BitVec 8) (s : State) : Host.Outcome State Fault Refusal :=
  hostWrite (.rr 1) (v.setWidth 32) s

/-- `R8 RR2` (rule R115). -/
def execR8Rr2 (s : State) : Host.Outcome State Fault Refusal :=
  hostRead (.rr 2) s

/-- `W8 RR2, v` (rule R115). -/
def execW8Rr2 (v : BitVec 8) (s : State) : Host.Outcome State Fault Refusal :=
  hostWrite (.rr 2) (v.setWidth 32) s

/-- `R8 RR3` (rule R115). -/
def execR8Rr3 (s : State) : Host.Outcome State Fault Refusal :=
  hostRead (.rr 3) s

/-- `W8 RR3, v` (rule R115). -/
def execW8Rr3 (v : BitVec 8) (s : State) : Host.Outcome State Fault Refusal :=
  hostWrite (.rr 3) (v.setWidth 32) s

/-- `R8 RR4` (rule R115). -/
def execR8Rr4 (s : State) : Host.Outcome State Fault Refusal :=
  hostRead (.rr 4) s

/-- `W8 RR4, v` (rule R115). -/
def execW8Rr4 (v : BitVec 8) (s : State) : Host.Outcome State Fault Refusal :=
  hostWrite (.rr 4) (v.setWidth 32) s

/-- `R8 RR5` (rule R115). -/
def execR8Rr5 (s : State) : Host.Outcome State Fault Refusal :=
  hostRead (.rr 5) s

/-- `W8 RR5, v` (rule R115). -/
def execW8Rr5 (v : BitVec 8) (s : State) : Host.Outcome State Fault Refusal :=
  hostWrite (.rr 5) (v.setWidth 32) s

/-- `R8 RR6` (rule R115). -/
def execR8Rr6 (s : State) : Host.Outcome State Fault Refusal :=
  hostRead (.rr 6) s

/-- `W8 RR6, v` (rule R115). -/
def execW8Rr6 (v : BitVec 8) (s : State) : Host.Outcome State Fault Refusal :=
  hostWrite (.rr 6) (v.setWidth 32) s

/-- `R8 RR7` (rule R115). -/
def execR8Rr7 (s : State) : Host.Outcome State Fault Refusal :=
  hostRead (.rr 7) s

/-- `W8 RR7, v` (rule R115). -/
def execW8Rr7 (v : BitVec 8) (s : State) : Host.Outcome State Fault Refusal :=
  hostWrite (.rr 7) (v.setWidth 32) s

/-- `R8 RR8` (rule R115). -/
def execR8Rr8 (s : State) : Host.Outcome State Fault Refusal :=
  hostRead (.rr 8) s

/-- `W8 RR8, v` (rule R115). -/
def execW8Rr8 (v : BitVec 8) (s : State) : Host.Outcome State Fault Refusal :=
  hostWrite (.rr 8) (v.setWidth 32) s

/-- `R8 RR9` (rule R115). -/
def execR8Rr9 (s : State) : Host.Outcome State Fault Refusal :=
  hostRead (.rr 9) s

/-- `W8 RR9, v` (rule R115). -/
def execW8Rr9 (v : BitVec 8) (s : State) : Host.Outcome State Fault Refusal :=
  hostWrite (.rr 9) (v.setWidth 32) s

/-- `R8 RR10` (rule R115). -/
def execR8Rr10 (s : State) : Host.Outcome State Fault Refusal :=
  hostRead (.rr 10) s

/-- `W8 RR10, v` (rule R115). -/
def execW8Rr10 (v : BitVec 8) (s : State) : Host.Outcome State Fault Refusal :=
  hostWrite (.rr 10) (v.setWidth 32) s

/-- `R8 RR11` (rule R115). -/
def execR8Rr11 (s : State) : Host.Outcome State Fault Refusal :=
  hostRead (.rr 11) s

/-- `W8 RR11, v` (rule R115). -/
def execW8Rr11 (v : BitVec 8) (s : State) : Host.Outcome State Fault Refusal :=
  hostWrite (.rr 11) (v.setWidth 32) s

/-- `R8 RR12` (rule R115). -/
def execR8Rr12 (s : State) : Host.Outcome State Fault Refusal :=
  hostRead (.rr 12) s

/-- `W8 RR12, v` (rule R115). -/
def execW8Rr12 (v : BitVec 8) (s : State) : Host.Outcome State Fault Refusal :=
  hostWrite (.rr 12) (v.setWidth 32) s

/-- `R8 RR13` (rule R115). -/
def execR8Rr13 (s : State) : Host.Outcome State Fault Refusal :=
  hostRead (.rr 13) s

/-- `W8 RR13, v` (rule R115). -/
def execW8Rr13 (v : BitVec 8) (s : State) : Host.Outcome State Fault Refusal :=
  hostWrite (.rr 13) (v.setWidth 32) s

/-- `R8 RR14` (rule R115). -/
def execR8Rr14 (s : State) : Host.Outcome State Fault Refusal :=
  hostRead (.rr 14) s

/-- `W8 RR14, v` (rule R115). -/
def execW8Rr14 (v : BitVec 8) (s : State) : Host.Outcome State Fault Refusal :=
  hostWrite (.rr 14) (v.setWidth 32) s

/-- `R8 RR15` (rule R115). -/
def execR8Rr15 (s : State) : Host.Outcome State Fault Refusal :=
  hostRead (.rr 15) s

/-- `W8 RR15, v` (rule R115). -/
def execW8Rr15 (v : BitVec 8) (s : State) : Host.Outcome State Fault Refusal :=
  hostWrite (.rr 15) (v.setWidth 32) s

/-- `R8 RR16` (rule R115). -/
def execR8Rr16 (s : State) : Host.Outcome State Fault Refusal :=
  hostRead (.rr 16) s

/-- `W8 RR16, v` (rule R115). -/
def execW8Rr16 (v : BitVec 8) (s : State) : Host.Outcome State Fault Refusal :=
  hostWrite (.rr 16) (v.setWidth 32) s

/-- `R32 WDR` (rule R116). -/
def execR32Wdr (s : State) : Host.Outcome State Fault Refusal :=
  hostRead .wdr s

/-- `W32 WDR, v` (rule R116). -/
def execW32Wdr (v : BitVec 32) (s : State) : Host.Outcome State Fault Refusal :=
  hostWrite .wdr v s

/-- `R32 RDR` (rule R117). -/
def execR32Rdr (s : State) : Host.Outcome State Fault Refusal :=
  hostRead .rdr s

/-- `W32 RDR, v` (rule R117). -/
def execW32Rdr (v : BitVec 32) (s : State) : Host.Outcome State Fault Refusal :=
  hostWrite .rdr v s

/-- `R8 IMR` (rule R118). -/
def execR8Imr (s : State) : Host.Outcome State Fault Refusal :=
  hostRead .imr s

/-- `W8 IMR, v` (rule R118). -/
def execW8Imr (v : BitVec 8) (s : State) : Host.Outcome State Fault Refusal :=
  hostWrite .imr (v.setWidth 32) s

/-- `R8 SBIMR` (rule R118). -/
def execR8Sbimr (s : State) : Host.Outcome State Fault Refusal :=
  hostRead .sbimr s

/-- `W8 SBIMR, v` (rule R118). -/
def execW8Sbimr (v : BitVec 8) (s : State) : Host.Outcome State Fault Refusal :=
  hostWrite .sbimr (v.setWidth 32) s

/-- `R8 MBIMR` (rule R118). -/
def execR8Mbimr (s : State) : Host.Outcome State Fault Refusal :=
  hostRead .mbimr s

/-- `W8 MBIMR, v` (rule R118). -/
def execW8Mbimr (v : BitVec 8) (s : State) : Host.Outcome State Fault Refusal :=
  hostWrite .mbimr (v.setWidth 32) s

/-- `R8 ISR` (rule R119). -/
def execR8Isr (s : State) : Host.Outcome State Fault Refusal :=
  hostRead .isr s

/-- `W8 ISR, v` (rule R119). -/
def execW8Isr (v : BitVec 8) (s : State) : Host.Outcome State Fault Refusal :=
  hostWrite .isr (v.setWidth 32) s

/-- `R8 SBISR` (rule R119). -/
def execR8Sbisr (s : State) : Host.Outcome State Fault Refusal :=
  hostRead .sbisr s

/-- `W8 SBISR, v` (rule R119). -/
def execW8Sbisr (v : BitVec 8) (s : State) : Host.Outcome State Fault Refusal :=
  hostWrite .sbisr (v.setWidth 32) s

/-- `R8 MBISR` (rule R119). -/
def execR8Mbisr (s : State) : Host.Outcome State Fault Refusal :=
  hostRead .mbisr s

/-- `W8 MBISR, v` (rule R119). -/
def execW8Mbisr (v : BitVec 8) (s : State) : Host.Outcome State Fault Refusal :=
  hostWrite .mbisr (v.setWidth 32) s

/-- `R8 ICR` (rule R120). -/
def execR8Icr (s : State) : Host.Outcome State Fault Refusal :=
  hostRead .icr s

/-- `W8 ICR, v` (rule R120). -/
def execW8Icr (v : BitVec 8) (s : State) : Host.Outcome State Fault Refusal :=
  hostWrite .icr (v.setWidth 32) s

/-- `R8 SBICR` (rule R120). -/
def execR8Sbicr (s : State) : Host.Outcome State Fault Refusal :=
  hostRead .sbicr s

/-- `W8 SBICR, v` (rule R120). -/
def execW8Sbicr (v : BitVec 8) (s : State) : Host.Outcome State Fault Refusal :=
  hostWrite .sbicr (v.setWidth 32) s

/-- `R8 MBICR` (rule R120). -/
def execR8Mbicr (s : State) : Host.Outcome State Fault Refusal :=
  hostRead .mbicr s

/-- `W8 MBICR, v` (rule R120). -/
def execW8Mbicr (v : BitVec 8) (s : State) : Host.Outcome State Fault Refusal :=
  hostWrite .mbicr (v.setWidth 32) s

/-- `R8 CTRL` (rule R121). -/
def execR8Ctrl (s : State) : Host.Outcome State Fault Refusal :=
  hostRead .ctrl s

/-- `W8 CTRL, v` (rule R121). -/
def execW8Ctrl (v : BitVec 8) (s : State) : Host.Outcome State Fault Refusal :=
  hostWrite .ctrl (v.setWidth 32) s

/-- `R8 SBCSR` (rule R122). -/
def execR8Sbcsr (s : State) : Host.Outcome State Fault Refusal :=
  hostRead .sbcsr s

/-- `W8 SBCSR, v` (rule R122). -/
def execW8Sbcsr (v : BitVec 8) (s : State) : Host.Outcome State Fault Refusal :=
  hostWrite .sbcsr (v.setWidth 32) s

/-- `R8 MBCSR` (rule R122). -/
def execR8Mbcsr (s : State) : Host.Outcome State Fault Refusal :=
  hostRead .mbcsr s

/-- `W8 MBCSR, v` (rule R122). -/
def execW8Mbcsr (v : BitVec 8) (s : State) : Host.Outcome State Fault Refusal :=
  hostWrite .mbcsr (v.setWidth 32) s

/-- `R8 CLKR` (rule R123). -/
def execR8Clkr (s : State) : Host.Outcome State Fault Refusal :=
  hostRead .clkr s

/-- `W8 CLKR, v` (rule R123). -/
def execW8Clkr (v : BitVec 8) (s : State) : Host.Outcome State Fault Refusal :=
  hostWrite .clkr (v.setWidth 32) s

/-- `R32 DATATO` (rule R124). -/
def execR32Datato (s : State) : Host.Outcome State Fault Refusal :=
  hostRead .datato s

/-- `W32 DATATO, v` (rule R124). -/
def execW32Datato (v : BitVec 32) (s : State) : Host.Outcome State Fault Refusal :=
  hostWrite .datato v s

/-- `R16 BLR` (rule R125). -/
def execR16Blr (s : State) : Host.Outcome State Fault Refusal :=
  hostRead .blr s

/-- `W16 BLR, v` (rule R125). -/
def execW16Blr (v : BitVec 16) (s : State) : Host.Outcome State Fault Refusal :=
  hostWrite .blr (v.setWidth 32) s

end Sys2Proof.Machine
end

