-- ==== Sys2Proof/Machine/Engine.lean ====
section
/-! DEFINITION. ENGINE: what follows each test of the operations' pseudocode. `issue_command` (41_command_interface.md rule
R167), initialization (42_initialization.md rules R181 to R191), the blocking transfers (43_blocking_transfers.md rules R200
to R204), the bodies of the start operations and of `status` (44_nonblocking_transfers.md rules R216, R221). -/

namespace Sys2Proof.Machine

/-! ### `issue_command` (rule R167) -/

/-- The steps of `issue_command` up to the end of its last wait. -/
def issueSteps (arg : Word) (index : BitVec 6) : List Micro :=
  clearAll ++ sendCommand arg index .poll ++
    if respClass index = some .none then [] else [.pollResponse]

/-- The test after them: a class `none` command has succeeded, any other has an answer to look at. -/
def issuePoint (index : BitVec 6) (k : Cont) : Point :=
  if respClass index = some .none then .result k .success else .responded index k

/-- Some steps, then `issue_command(arg, index)`, whose result goes to `k`. -/
def issueAfter (before : List Micro) (arg : Word) (index : BitVec 6) (k : Cont) (l : Locals) : Decision :=
  .run (before ++ issueSteps arg index) (issuePoint index k) l

/-- Some steps, then `wait_ready()` (42_initialization.md rule R191): one `issue_command(ARG_RCA, 13)`, repeated by `resume`
while it answers `Busy`. -/
def waitReadyAfter (before : List Micro) (w : Wait) (l : Locals) (s : State) : Decision :=
  issueAfter before (argRca s.cfg) 13#6 (.ready w) l

/-! ### Initialization -/

/-- `exit(result)` (rule R190). -/
def exitInit (result : ErrCode) (l : Locals) (s : State) : Decision :=
  .run
    (clearAll ++
      [.setSt (.state .idle), .setSt (.errState result), .setSt (.tempErr result), .setSt (.blocks 0),
       .setSt (.sector 0), .setSt (.startTick 0), .setSt (.timeoutTicks (maxTicks s.cfg)),
       .setInitialised (result == .initSuccess)])
    (.ret (some (.errCode result))) l

/-- The steps before the version test: `inst.base`, step 1 (rule R181) and the reads of step 2 (rule R182). -/
def initSteps (c : Cfg) (initClkDiv : Byte) : List Micro :=
  [.setInst (.base c.base),
   .write .datato c.dataTimeout,
   .write .clkr initClkDiv.zext,
   .setInst (.clkDiv initClkDiv),
   .write .ctrl 0x02,
   .readVersion, .readMajor, .readMinor]

/-- The version test of step 2, then GO_IDLE_STATE of step 3 (rules R182, R183). -/
def afterVersion (l : Locals) (s : State) : Decision :=
  if versionRecognised s.cfg l.version then
    issueAfter
      [.setInst (.fifoDepthWords (fifoDepthWords s.cfg (l.version.extractLsb' 0 2))),
       .setInst (.busWidth (dataWidth l.version))]
      argZero 0#6 .initGoIdle l
  else exitInit .unsupportedHwRevision l s

/-- The end of one round of step 3's loop, then step 4 and ALL_SEND_CID of step 5 (rules R183 to R185). -/
def afterOcr (l : Locals) (s : State) : Decision :=
  if !ocrReady s.cfg l.payload then issueAfter [] s.cfg.ocrArg 1#6 .initOpCond l
  else if ocrMode s.cfg l.payload ≠ s.cfg.ocrModeSector then exitInit .opCondErr l s
  else issueAfter [] argZero 2#6 .initCid l

/-- The speed switch of step 6 (rule R188). -/
def speedSwitch (l : Locals) (s : State) : Decision :=
  issueAfter [] (argSwitch s.cfg.extCsdHsTiming 1#8) 6#6 .initSpeedSwitch l

/-- Bus-width negotiation of step 6 (rule R187): a switch when the controller is 4 or 8 bits wide. -/
def busSwitch (l : Locals) (s : State) : Decision :=
  if s.inst.busWidth = 4#4 then issueAfter [] (argSwitch s.cfg.extCsdBusWidth 1#8) 6#6 .initBusSwitch l
  else if s.inst.busWidth = 8#4 then issueAfter [] (argSwitch s.cfg.extCsdBusWidth 2#8) 6#6 .initBusSwitch l
  else speedSwitch l s

/-- The `HS_TIMING` test of step 7 (rule R189). -/
def afterCapture (l : Locals) (s : State) : Decision :=
  if s.inst.hsTiming = 0#8 then exitInit .clkDivErr l s else exitInit .initSuccess l s

/-! ### Blocking transfers -/

/-- The opening steps of `read_block(s, x)` (43_blocking_transfers.md rule R201), after some other steps. -/
def readBlockAfter (before : List Micro) (sector : Word) (dest : Dest) (l : Locals) (s : State) : Decision :=
  waitReadyAfter (before ++ [.write .ctrl 0x0A]) (.readBefore sector dest) l s

/-- `read_block` returns `code`: to HOST for `sbr`; to step 7 of initialization for the scratch buffer (rule R189). -/
def readBlockEnds (dest : Dest) (code : ErrCode) (l : Locals) (s : State) : Decision :=
  match dest with
  | .caller _ => .finish (some (.errCode code))
  | .scratch =>
    if code = .transferSuccess then
      .run
        [.setInst (.sectorCount (csdSectorCount s.cfg l.scratch)),
         .setInst (.cardType (csdByte s.cfg.littleEndian l.scratch s.cfg.extCsdCardType)),
         .setInst (.hsTiming (csdByte s.cfg.littleEndian l.scratch s.cfg.extCsdHsTiming.toNat))]
        .initCaptured l
    else exitInit code l s

/-- The data command of a block read: SEND_EXT_CSD for the sentinel, else READ_SINGLE_BLOCK (rule R201). -/
def readCommand (sector : Word) (dest : Dest) (l : Locals) (s : State) : Decision :=
  if sector = s.cfg.extCsdSentinel then issueAfter [] argZero 8#6 (.readCmd dest) l
  else issueAfter [] sector 17#6 (.readCmd dest) l

/-- The error test of a block write at `DONE`: `CRC_ERR`, then `CTRL_ERR` (rules R200, R204). -/
def afterWriteDone (l : Locals) (s : State) : Decision :=
  if l.doneBits.getLsbD 1 then .finish (some (.errCode .crcErr))
  else if l.doneBits.getLsbD 2 then .finish (some (.errCode .sbWriteFail))
  else waitReadyAfter [] .writeAfter l s

/-- The error test of a block read at `DONE`, then the reads of `RDR` (rules R201, R204). -/
def afterReadDone (dest : Dest) (l : Locals) (s : State) : Decision :=
  if l.doneBits.getLsbD 1 then readBlockEnds dest .crcErr l s
  else if l.doneBits.getLsbD 2 then readBlockEnds dest .readCtrlErr l s
  else waitReadyAfter (drainBlock s.cfg dest) (.readAfter dest) l s

/-! ### What follows a result -/

/-- What follows a `wait_ready` that ended with `fail` or not. -/
def afterWait (w : Wait) (failed : Bool) (l : Locals) (s : State) : Decision :=
  match w with
  | .initBus => if failed then exitInit .dwidthErr l s else speedSwitch l s
  | .initSpeed =>
    if failed then exitInit .clkDivErr l s
    else
      readBlockAfter [.write .clkr s.par.clkDiv.zext, .setInst (.clkDiv s.par.clkDiv)] s.cfg.extCsdSentinel .scratch l s
  | .writeBefore buf sector =>
    if failed then .finish (some (.errCode .sbWriteFail)) else issueAfter [] sector 24#6 (.writeCmd buf) l
  | .writeAfter => .finish (some (.errCode (if failed then .sbWriteFail else .transferSuccess)))
  | .readBefore sector dest => if failed then readBlockEnds dest .sbReadFail l s else readCommand sector dest l s
  | .readAfter dest => readBlockEnds dest (if failed then .sbReadFail else .transferSuccess) l s

/-- What follows the result `r` of an `issue_command`. -/
def resume (k : Cont) (r : CmdResult) (l : Locals) (s : State) : Decision :=
  match k with
  | .issued => .finish (some (.cmdResult r))
  | .initGoIdle => if r = .success then issueAfter [] s.cfg.ocrArg 1#6 .initOpCond l else exitInit .resetErr l s
  | .initOpCond => if r = .success then .run readPayload32 .initOcr l else exitInit .opCondErr l s
  | .initCid => if r = .success then issueAfter [] (argRca s.cfg) 3#6 .initRca l else exitInit .cidRespErr l s
  | .initRca => if r = .success then issueAfter [] (argRca s.cfg) 7#6 .initSelect l else exitInit .rcaError l s
  | .initSelect => if r = .success then busSwitch l s else exitInit .rcaError l s
  | .initBusSwitch => if r = .fail then exitInit .dwidthErr l s else waitReadyAfter [] .initBus l s
  | .initSpeedSwitch => if r = .fail then exitInit .clkDivErr l s else waitReadyAfter [] .initSpeed l s
  | .ready w => if r = .busy then waitReadyAfter [] w l s else afterWait w (r == .fail) l s
  | .writeCmd buf =>
    if r = .success then .run (fillBlock s.cfg buf ++ [.pollDone]) .writeDone l else .finish (some (.errCode .sbWriteFail))
  | .readCmd dest => if r = .success then .run [.pollDone] (.readDone dest) l else readBlockEnds dest .sbReadFail l s

/-- The tests of `issue_command` after its last wait (41_command_interface.md rule R167): an error flag wins; R1 and R1b
are parsed; R2 and R3 succeed. -/
def afterResponse (index : BitVec 6) (k : Cont) (l : Locals) (s : State) : Decision :=
  if (l.polled &&& 0x0C#8) != 0#8 then resume k .fail l s
  else if respClass index = some .r1 ∨ respClass index = some .r1b then .run readPayload32 (.parsed k) l
  else resume k .success l s

/-! ### The non-blocking operations -/

/-- `start_nb(chain, s, n, t0, to)` (44_nonblocking_transfers.md rule R216), every line one step. -/
def startNbSteps (c : Cfg) (x : Chain) (sector : Word) (count : BitVec 16) (startTick timeoutTicks : Nat) : List Micro :=
  [.setSt (.state x.parseStatus), .setSt (.sector sector), .setSt (.blocks count), .setSt (.startTick startTick),
   .setSt (.timeoutTicks timeoutTicks), .setSt (.errState .processing)]
  ++ clearAll
  ++ [.write .imr 0x0E]
  ++ (match x.tier with
      | .sb => [.write .sbimr 0x1F, .write .mbimr 0x00]
      | .mb => [.write .sbimr 0x00, .write .mbimr 0x1F])
  ++ sendCommand (argRca c) 13#6 .isrCheck

/-- The first branch of `status` (rule R221). -/
def appTimeoutSteps : List Micro :=
  clearAll ++ maskAll ++ [.setSt (.state .error), .setSt (.errState .appTimeoutFail)]

end Sys2Proof.Machine
end

