-- ==== Sys2Proof/Machine/Dispatcher.lean ====
section
/-! DEFINITION. DISPATCHER: what one interrupt delivery does after its snapshot (45_interrupt_state_machine.md rules R236 to
R249). A delivery returns nothing. -/

namespace Sys2Proof.Machine

/-- The end of a delivery. -/
def delivered : Decision := .finish none

/-- Some steps, then the end of the delivery. -/
def deliver (todo : List Micro) (l : Locals) : Decision := .run todo (.ret none) l

/-- `terminal()` (rule R237). -/
def terminal (wasIdle : Bool) (l : Locals) : Decision :=
  deliver
    (clearAll ++ maskAll ++ (if wasIdle then [.setSt (.errState .intStatusFail)] else []) ++ [.setSt (.state .error)]) l

/-- `finish_abort()` (rule R238). No step before its last changes `st.temp_err`. -/
def finishAbort (l : Locals) (s : State) : Decision :=
  deliver (clearAll ++ maskAll ++ [.setSt (.state .error), .setSt (.errState s.st.tempErr)]) l

/-- `abort(code)` (rule R240). -/
def abort (code : ErrCode) (l : Locals) : Decision :=
  deliver
    ([.setSt (.tempErr code)] ++ clearAll ++ [.setSt (.state .stopTransmission)]
      ++ sendCommand argZero 12#6 .isrCheck) l

/-- `advance(next, arg, cmd)` (rule R249): the snapshot's command-tier latches are cleared, not all. -/
def advance (next : FsmState) (arg : Word) (index : BitVec 6) (l : Locals) : Decision :=
  deliver ([.write .icr l.snapC.zext, .setSt (.state next)] ++ sendCommand arg index .isrCheck) l

/-- `complete()` (rule R246). -/
def complete (l : Locals) : Decision :=
  deliver (clearAll ++ maskAll ++ [.setSt (.state .idle), .setSt (.errState .transferSuccess)]) l

/-- The status register of the chain's tier, from the snapshot (rule R236). -/
def snapTier (x : Chain) (l : Locals) : Byte :=
  match x.tier with
  | .sb => l.snapS
  | .mb => l.snapM

/-- A chain step whose snapshot has no error bit: the expected event (rules R241 to R245). A checkpoint goes on to read
the card status. -/
def expectedEvent (x : Chain) (step : ChainStep) (l : Locals) : Decision :=
  match step with
  | .parseStatus | .parseBlockCount | .issueData =>
    if !l.snapC.getLsbD 1 then delivered
    else if !l.snapC.getLsbD 0 then abort .otherFail l
    else .run readPayload32 (.checkpoint x step) l
  | .awaitDone => if !(snapTier x l).getLsbD 0 then delivered else complete l

/-- `dispatch(c, s, m)` (rule R236): terminal states, the abort state, then error before expected event. -/
def dispatch (l : Locals) (s : State) : Decision :=
  match s.st.state with
  | .idle => terminal true l
  | .error => terminal false l
  | .stopTransmission => finishAbort l s
  | state =>
    match state.chain? with
    | none => delivered
    | some (x, step) =>
      if hasError l.snapC (snapTier x l) then abort (classify l.snapC (snapTier x l)) l
      else expectedEvent x step l

/-- The checkpoints with their card status read: `on_parse_status` (rule R242), `on_parse_block_count` (rule R243),
`on_issue_data` (rule R244). -/
def checkpoint (x : Chain) (step : ChainStep) (l : Locals) (s : State) : Decision :=
  if parseR1 s.cfg l.payload = .fail then abort x.failCode l
  else match step with
    | .parseStatus =>
      if parseR1 s.cfg l.payload = .busy ∨ curState s.cfg l.payload ≠ s.cfg.stateTran then
        advance x.parseStatus (argRca s.cfg) 13#6 l
      else if x.multi then advance x.afterStatus (argCount s.st.blocks) 23#6 l
      else advance x.afterStatus (x.dataArg s.st.sector) x.dataCmd l
    | .parseBlockCount => advance x.issueData (x.dataArg s.st.sector) x.dataCmd l
    | .issueData => deliver [.write .icr l.snapC.zext, .setSt (.state x.awaitDone)] l
    | .awaitDone => delivered

end Sys2Proof.Machine
end

