-- ==== Sys2Proof/Machine/Requests.lean ====
section
/-! DEFINITION. Format `OP`: an operation requested of the block (30_encoding.md rule R95). A request is HOST's one step
(00_scope.md rule R2): the tests that stand before the operation touches anything, then the operation begins, and ENGINE or
DISPATCHER takes its steps (log entry 4). A request that needs no step, or one register write, ends at once. -/

namespace Sys2Proof.Machine

/-! ### The tests shared by the transfers -/

/-- The preconditions of a blocking transfer, in order (43_blocking_transfers.md rule R202), before `run`. -/
def blockingTransfer (iv : Bool) (buf : Word) (s : State) (run : State → Host.Outcome State Fault Refusal) :
    Host.Outcome State Fault Refusal :=
  if !iv then raiseAssert .nullInstance s
  else if !s.initialised then .refused .notInitialised
  else if s.st.errState = .processing then .refused .transferInFlight
  else if !bufferFits s buf then .refused .badBuffer
  else run s

/-- The validation of a start operation, in order (44_nonblocking_transfers.md rule R215), then `start_nb` (rule R216). -/
def startNb (iv : Bool) (x : Chain) (sector : Word) (count : BitVec 16) (startTick timeoutTicks : Word) (s : State) :
    Host.Outcome State Fault Refusal :=
  if !iv then raiseAssert .nullInstance s
  else if x.multi && count == 0#16 then raiseAssert .zeroBlockCount s
  else if tickOf s.cfg timeoutTicks == 0 then raiseAssert .zeroTimeout s
  else if !s.initialised then .refused .notInitialised
  else if s.st.errState = .processing then .refused .transferInFlight
  else
    startOperation (startNbSteps s.cfg x sector count (tickOf s.cfg startTick) (tickOf s.cfg timeoutTicks))
      (.ret (some (.errCode .processing))) s

/-! ### The operations -/

/-- `init(par)` (42_initialization.md rule R180): the Params record is the one supplied with the request. -/
def execInit (iv : Bool) (initClkDiv clkDiv : Byte) (s : State) : Host.Outcome State Fault Refusal :=
  if !iv then raiseAssert .nullInstance s
  else if s.initialised then .refused .alreadyInitialised
  else startOperation (initSteps s.cfg initClkDiv) .initVersion (s.setPar ⟨initClkDiv, clkDiv⟩)

/-- `sbw(buf, s)` (43_blocking_transfers.md rule R200). -/
def execSbw (iv : Bool) (buf sector : Word) (s : State) : Host.Outcome State Fault Refusal :=
  blockingTransfer iv buf s fun t =>
    startOperation (.write .ctrl 0x06 :: issueSteps (argRca t.cfg) 13#6)
      (issuePoint 13#6 (.ready (.writeBefore buf sector))) t

/-- `sbr(s, buf)` (rule R201): the preconditions, then `read_block(s, buf)`. -/
def execSbr (iv : Bool) (sector buf : Word) (s : State) : Host.Outcome State Fault Refusal :=
  blockingTransfer iv buf s fun t =>
    startOperation (.write .ctrl 0x0A :: issueSteps (argRca t.cfg) 13#6)
      (issuePoint 13#6 (.ready (.readBefore sector (.caller buf)))) t

/-- `sbw_nb(s, t0, to)` (44_nonblocking_transfers.md rule R217): the block count is stored as 1. -/
def execSbwNb (iv : Bool) (sector startTick timeoutTicks : Word) (s : State) : Host.Outcome State Fault Refusal :=
  startNb iv .sw sector 1#16 startTick timeoutTicks s

/-- `sbr_nb(s, t0, to)` (rule R218): the sentinel drives the extended-CSD chain. -/
def execSbrNb (iv : Bool) (sector startTick timeoutTicks : Word) (s : State) : Host.Outcome State Fault Refusal :=
  startNb iv (if sector = s.cfg.extCsdSentinel then .xr else .sr) sector 1#16 startTick timeoutTicks s

/-- `mbw(s, n, t0, to)` (rule R219). -/
def execMbw (iv : Bool) (sector : Word) (count : BitVec 16) (startTick timeoutTicks : Word) (s : State) :
    Host.Outcome State Fault Refusal :=
  startNb iv .mw sector count startTick timeoutTicks s

/-- `mbr(s, n, t0, to)` (rule R220). -/
def execMbr (iv : Bool) (sector : Word) (count : BitVec 16) (startTick timeoutTicks : Word) (s : State) :
    Host.Outcome State Fault Refusal :=
  startNb iv .mr sector count startTick timeoutTicks s

/-- `status(now)` (rule R221): the timeout branch, or the current sticky code at once. -/
def execStatus (iv : Bool) (now : Word) (s : State) : Host.Outcome State Fault Refusal :=
  if !iv then raiseAssert .nullInstance s
  else if !s.initExited then .refused .statusUnwritten
  else if statusTimedOut now s then startOperation appTimeoutSteps (.ret (some (.errCode .appTimeoutFail))) s
  else answer (some (.errCode s.st.errState)) s

/-- `isr()` requested by HOST (45_interrupt_state_machine.md rule R235): it does not look at `irq`. -/
def execIsr (iv : Bool) (s : State) : Host.Outcome State Fault Refusal :=
  enterInterrupt iv s

/-- `init_fifo()` (44_nonblocking_transfers.md rule R222): one write of `CTRL`, both FIFOs emptied, the clock kept on. -/
def execInitFifo (iv : Bool) (s : State) : Host.Outcome State Fault Refusal :=
  if !iv then raiseAssert .nullInstance s
  else hostWrite .ctrl 0x0E s

/-- `wfifo_addr()` (rule R223): no register is accessed. -/
def execWfifoAddr (iv : Bool) (s : State) : Host.Outcome State Fault Refusal :=
  if !iv then raiseAssert .nullInstance s
  else answer (some (.address (s.cfg.base + s.cfg.off.wdr.setWidth 32))) s

/-- `rfifo_addr()` (rule R224): no register is accessed. -/
def execRfifoAddr (iv : Bool) (s : State) : Host.Outcome State Fault Refusal :=
  if !iv then raiseAssert .nullInstance s
  else answer (some (.address (s.cfg.base + s.cfg.off.rdr.setWidth 32))) s

/-- `send_command(arg, cmd, policy)` (41_command_interface.md rule R165), an internal operation: `iv` is not tested
(60_exceptions.md rule R266 names `op` 0x01 to 0x0C; log entry 16). -/
def execSendCommand (_iv : Bool) (arg : Word) (index : BitVec 6) (policy : Policy) (s : State) :
    Host.Outcome State Fault Refusal :=
  if respClass index = none then .refused .unknownIndex
  else startOperation (sendCommand arg index policy) (.ret none) s

/-- `issue_command(arg, cmd)` (rule R167), an internal operation. -/
def execIssueCommand (_iv : Bool) (arg : Word) (index : BitVec 6) (s : State) : Host.Outcome State Fault Refusal :=
  if respClass index = none then .refused .unknownIndex
  else startOperation (issueSteps arg index) (issuePoint index .issued) s

end Sys2Proof.Machine
end

