-- ==== Sys2Proof/Machine/Dispatch.lean ====
section
/-! DEFINITION. One arm per constructor of `Instr`. -/

namespace Sys2Proof.Machine

def exec (i : Instr) (s : State) : Host.Outcome State Fault Refusal :=
  match i with
  | .r8Sr => Sys2Proof.Machine.execR8Sr s
  | .w8Sr v => Sys2Proof.Machine.execW8Sr v s
  | .r8Vr => Sys2Proof.Machine.execR8Vr s
  | .w8Vr v => Sys2Proof.Machine.execW8Vr v s
  | .r8Mjvr => Sys2Proof.Machine.execR8Mjvr s
  | .w8Mjvr v => Sys2Proof.Machine.execW8Mjvr v s
  | .r8Mivr => Sys2Proof.Machine.execR8Mivr s
  | .w8Mivr v => Sys2Proof.Machine.execW8Mivr v s
  | .r8Cmdx => Sys2Proof.Machine.execR8Cmdx s
  | .w8Cmdx v => Sys2Proof.Machine.execW8Cmdx v s
  | .r8Arg1 => Sys2Proof.Machine.execR8Arg1 s
  | .w8Arg1 v => Sys2Proof.Machine.execW8Arg1 v s
  | .r8Arg2 => Sys2Proof.Machine.execR8Arg2 s
  | .w8Arg2 v => Sys2Proof.Machine.execW8Arg2 v s
  | .r8Arg3 => Sys2Proof.Machine.execR8Arg3 s
  | .w8Arg3 v => Sys2Proof.Machine.execW8Arg3 v s
  | .r8Arg4 => Sys2Proof.Machine.execR8Arg4 s
  | .w8Arg4 v => Sys2Proof.Machine.execW8Arg4 v s
  | .r8Rr0 => Sys2Proof.Machine.execR8Rr0 s
  | .w8Rr0 v => Sys2Proof.Machine.execW8Rr0 v s
  | .r8Rr1 => Sys2Proof.Machine.execR8Rr1 s
  | .w8Rr1 v => Sys2Proof.Machine.execW8Rr1 v s
  | .r8Rr2 => Sys2Proof.Machine.execR8Rr2 s
  | .w8Rr2 v => Sys2Proof.Machine.execW8Rr2 v s
  | .r8Rr3 => Sys2Proof.Machine.execR8Rr3 s
  | .w8Rr3 v => Sys2Proof.Machine.execW8Rr3 v s
  | .r8Rr4 => Sys2Proof.Machine.execR8Rr4 s
  | .w8Rr4 v => Sys2Proof.Machine.execW8Rr4 v s
  | .r8Rr5 => Sys2Proof.Machine.execR8Rr5 s
  | .w8Rr5 v => Sys2Proof.Machine.execW8Rr5 v s
  | .r8Rr6 => Sys2Proof.Machine.execR8Rr6 s
  | .w8Rr6 v => Sys2Proof.Machine.execW8Rr6 v s
  | .r8Rr7 => Sys2Proof.Machine.execR8Rr7 s
  | .w8Rr7 v => Sys2Proof.Machine.execW8Rr7 v s
  | .r8Rr8 => Sys2Proof.Machine.execR8Rr8 s
  | .w8Rr8 v => Sys2Proof.Machine.execW8Rr8 v s
  | .r8Rr9 => Sys2Proof.Machine.execR8Rr9 s
  | .w8Rr9 v => Sys2Proof.Machine.execW8Rr9 v s
  | .r8Rr10 => Sys2Proof.Machine.execR8Rr10 s
  | .w8Rr10 v => Sys2Proof.Machine.execW8Rr10 v s
  | .r8Rr11 => Sys2Proof.Machine.execR8Rr11 s
  | .w8Rr11 v => Sys2Proof.Machine.execW8Rr11 v s
  | .r8Rr12 => Sys2Proof.Machine.execR8Rr12 s
  | .w8Rr12 v => Sys2Proof.Machine.execW8Rr12 v s
  | .r8Rr13 => Sys2Proof.Machine.execR8Rr13 s
  | .w8Rr13 v => Sys2Proof.Machine.execW8Rr13 v s
  | .r8Rr14 => Sys2Proof.Machine.execR8Rr14 s
  | .w8Rr14 v => Sys2Proof.Machine.execW8Rr14 v s
  | .r8Rr15 => Sys2Proof.Machine.execR8Rr15 s
  | .w8Rr15 v => Sys2Proof.Machine.execW8Rr15 v s
  | .r8Rr16 => Sys2Proof.Machine.execR8Rr16 s
  | .w8Rr16 v => Sys2Proof.Machine.execW8Rr16 v s
  | .r32Wdr => Sys2Proof.Machine.execR32Wdr s
  | .w32Wdr v => Sys2Proof.Machine.execW32Wdr v s
  | .r32Rdr => Sys2Proof.Machine.execR32Rdr s
  | .w32Rdr v => Sys2Proof.Machine.execW32Rdr v s
  | .r8Imr => Sys2Proof.Machine.execR8Imr s
  | .w8Imr v => Sys2Proof.Machine.execW8Imr v s
  | .r8Sbimr => Sys2Proof.Machine.execR8Sbimr s
  | .w8Sbimr v => Sys2Proof.Machine.execW8Sbimr v s
  | .r8Mbimr => Sys2Proof.Machine.execR8Mbimr s
  | .w8Mbimr v => Sys2Proof.Machine.execW8Mbimr v s
  | .r8Isr => Sys2Proof.Machine.execR8Isr s
  | .w8Isr v => Sys2Proof.Machine.execW8Isr v s
  | .r8Sbisr => Sys2Proof.Machine.execR8Sbisr s
  | .w8Sbisr v => Sys2Proof.Machine.execW8Sbisr v s
  | .r8Mbisr => Sys2Proof.Machine.execR8Mbisr s
  | .w8Mbisr v => Sys2Proof.Machine.execW8Mbisr v s
  | .r8Icr => Sys2Proof.Machine.execR8Icr s
  | .w8Icr v => Sys2Proof.Machine.execW8Icr v s
  | .r8Sbicr => Sys2Proof.Machine.execR8Sbicr s
  | .w8Sbicr v => Sys2Proof.Machine.execW8Sbicr v s
  | .r8Mbicr => Sys2Proof.Machine.execR8Mbicr s
  | .w8Mbicr v => Sys2Proof.Machine.execW8Mbicr v s
  | .r8Ctrl => Sys2Proof.Machine.execR8Ctrl s
  | .w8Ctrl v => Sys2Proof.Machine.execW8Ctrl v s
  | .r8Sbcsr => Sys2Proof.Machine.execR8Sbcsr s
  | .w8Sbcsr v => Sys2Proof.Machine.execW8Sbcsr v s
  | .r8Mbcsr => Sys2Proof.Machine.execR8Mbcsr s
  | .w8Mbcsr v => Sys2Proof.Machine.execW8Mbcsr v s
  | .r8Clkr => Sys2Proof.Machine.execR8Clkr s
  | .w8Clkr v => Sys2Proof.Machine.execW8Clkr v s
  | .r32Datato => Sys2Proof.Machine.execR32Datato s
  | .w32Datato v => Sys2Proof.Machine.execW32Datato v s
  | .r16Blr => Sys2Proof.Machine.execR16Blr s
  | .w16Blr v => Sys2Proof.Machine.execW16Blr v s
  | .goIdleState arg => Sys2Proof.Machine.execGoIdleState arg s
  | .sendOpCond arg => Sys2Proof.Machine.execSendOpCond arg s
  | .allSendCid arg => Sys2Proof.Machine.execAllSendCid arg s
  | .setRelativeAddr arg => Sys2Proof.Machine.execSetRelativeAddr arg s
  | .switch arg => Sys2Proof.Machine.execSwitch arg s
  | .selectCard arg => Sys2Proof.Machine.execSelectCard arg s
  | .sendExtCsd arg => Sys2Proof.Machine.execSendExtCsd arg s
  | .stopTransmission arg => Sys2Proof.Machine.execStopTransmission arg s
  | .sendStatus arg => Sys2Proof.Machine.execSendStatus arg s
  | .readSingleBlock arg => Sys2Proof.Machine.execReadSingleBlock arg s
  | .readMultipleBlock arg => Sys2Proof.Machine.execReadMultipleBlock arg s
  | .setBlockCount arg => Sys2Proof.Machine.execSetBlockCount arg s
  | .writeSingleBlock arg => Sys2Proof.Machine.execWriteSingleBlock arg s
  | .writeMultipleBlock arg => Sys2Proof.Machine.execWriteMultipleBlock arg s
  | .init iv initClkDiv clkDiv => Sys2Proof.Machine.execInit iv initClkDiv clkDiv s
  | .sbw iv buf sector => Sys2Proof.Machine.execSbw iv buf sector s
  | .sbr iv sector buf => Sys2Proof.Machine.execSbr iv sector buf s
  | .sbwNb iv sector startTick timeoutTicks => Sys2Proof.Machine.execSbwNb iv sector startTick timeoutTicks s
  | .sbrNb iv sector startTick timeoutTicks => Sys2Proof.Machine.execSbrNb iv sector startTick timeoutTicks s
  | .mbw iv sector count startTick timeoutTicks => Sys2Proof.Machine.execMbw iv sector count startTick timeoutTicks s
  | .mbr iv sector count startTick timeoutTicks => Sys2Proof.Machine.execMbr iv sector count startTick timeoutTicks s
  | .status iv now => Sys2Proof.Machine.execStatus iv now s
  | .isr iv => Sys2Proof.Machine.execIsr iv s
  | .initFifo iv => Sys2Proof.Machine.execInitFifo iv s
  | .wfifoAddr iv => Sys2Proof.Machine.execWfifoAddr iv s
  | .rfifoAddr iv => Sys2Proof.Machine.execRfifoAddr iv s
  | .sendCommand iv arg index policy => Sys2Proof.Machine.execSendCommand iv arg index policy s
  | .issueCommand iv arg index => Sys2Proof.Machine.execIssueCommand iv arg index s

end Sys2Proof.Machine
end

