-- ==== Sys2Proof/Machine/Agents.lean ====
section
/-! DEFINITION. The agents' steps and the turn that chooses between them (00_scope.md rule R2, 20_memory.md rule R71): ENGINE
and DISPATCHER advance one step at a time, a request is decoded and executed when nothing is in progress, the platform
delivers, HOST calls `isr` itself, CONTROLLER takes events. A turn whose agent has no enabled step is passed over (log entry 17). -/

namespace Sys2Proof.Machine

/-! ### An operation or a delivery in progress -/

/-- The test or return a point stands for. -/
def continueAt (p : Point) (l : Locals) (s : State) : Decision :=
  match p with
  | .ret v => .finish v
  | .result k r => resume k r l s
  | .responded index k => afterResponse index k l s
  | .parsed k => resume k (parseR1 s.cfg l.payload) l s
  | .r2Read => .finish (some (.r2 l.r2))
  | .initVersion => afterVersion l s
  | .initOcr => afterOcr l s
  | .initCaptured => afterCapture l s
  | .writeDone => afterWriteDone l s
  | .readDone dest => afterReadDone dest l s
  | .dispatch => dispatch l s
  | .checkpoint x step => checkpoint x step l s

/-- What one step of a running context leaves. -/
inductive CtxResult where
  | running (c : Ctx) (s : State)
  | finished (v : Option Ret) (s : State)
  | refused (r : Refusal)
deriving DecidableEq, Repr

/-- The planned steps are done: the test at the point is made in the same step (log entry 5). -/
def settle (p : Point) (l : Locals) (s : State) : CtxResult :=
  match continueAt p l s with
  | .run todo p' l' => .running ⟨todo, p', l'⟩ s
  | .finish v => .finished v s

/-- One step of a running context: one register transaction or one engine-register update. -/
def ctxStep (c : Ctx) (s : State) : CtxResult :=
  match c.todo with
  | [] => settle c.point c.locals s
  | m :: rest =>
    match microStep m c.locals s with
    | .refused r => .refused r
    | .next more l t =>
      match more ++ rest with
      | [] => settle c.point l t
      | m' :: todo => .running ⟨m' :: todo, c.point, l⟩ t

/-- ENGINE takes one step of the operation in progress; at its end the value goes to the requester. -/
def engineStep (s : State) : Host.Outcome State Fault Refusal :=
  match s.engine with
  | none => .next s
  | some c =>
    match ctxStep c s with
    | .running c' t => .next (t.setEngine (some c'))
    | .finished v t => .next ((t.setEngine none).setResult v)
    | .refused r => .refused r

/-- DISPATCHER takes one step of the delivery in progress; a delivery returns nothing. -/
def dispatcherStep (s : State) : Host.Outcome State Fault Refusal :=
  match s.disp with
  | none => .next s
  | some c =>
    match ctxStep c s with
    | .running c' t => .next (t.setDisp (some c'))
    | .finished _ t => .next (leaveInterrupt t)
    | .refused r => .refused r

/-! ### Requests -/

/-- The operations HOST cannot request (30_encoding.md rules R95, R98). -/
def internalOnly : Instr → Bool
  | .sendCommand _ _ _ _ => true
  | .issueCommand _ _ _ => true
  | _ => false

/-- The refusal a rejected packet meets (60_exceptions.md rule R267). -/
def refusalOf : DecodeError → Refusal
  | .badTransaction => .badTransaction
  | .badRequest => .badRequest
  | .unknownIndex => .unknownIndex

/-- A reserved offset reads 0x00 and ignores a write (40_register_model.md rule R126). -/
def accessReserved (write : Bool) (s : State) : Host.Outcome State Fault Refusal :=
  answer (if write then none else some (.read8 0)) s

/-- A packet is decoded and executed. -/
def serve (src : Requester) (bytes : List Byte) (s : State) : Host.Outcome State Fault Refusal :=
  match decode s.cfg bytes with
  | .rejected e => .refused (refusalOf e)
  | .reserved write _ => accessReserved write s
  | .instr i => if internalOnly i && src == .host then .refused .badRequest else exec i s

/-- HOST begins `read_r2` (41_command_interface.md rule R170) in its own context (log entry 28). -/
def beginReadR2 (s : State) : Host.Outcome State Fault Refusal :=
  startOperation readR2 .r2Read s

/-! ### Turns -/

/-- The agent that goes on when no turn is given: DISPATCHER preempts ENGINE (20_memory.md rule R71 item 2); with neither
in progress the block is idle (70_reset_and_hazards.md rule R292). -/
def background (s : State) : Host.Outcome State Fault Refusal :=
  if s.disp.isSome then dispatcherStep s else engineStep s

/-- One turn. The state given has the turn removed, but for a request that has to wait (rule R71 item 4). Between two steps of an
operation DISPATCHER enters by the platform's delivery, with `irq` 1, or by HOST's own call of `isr`, whatever `irq` is (rule R71
item 3). HOST's packet of `isr` is a request like every other; HOST's call inside an operation is `hostIsr` (log entry 32, DESIGN
CHOICE). -/
def takeTurn (turn : Turn) (rest : List Turn) (s : State) : Host.Outcome State Fault Refusal :=
  match turn with
  | .event e =>
    match controllerStep e (s.setAgenda rest) with
    | some t => .next t
    | none => .next (s.setAgenda rest)
  | .engine => if s.disp.isSome then .next (s.setAgenda rest) else engineStep (s.setAgenda rest)
  | .dispatcher => dispatcherStep (s.setAgenda rest)
  | .deliver iv =>
    if irq s && s.disp.isNone then enterInterrupt iv (s.setAgenda rest) else .next (s.setAgenda rest)
  | .hostIsr iv => if s.disp.isSome then background s else exec (.isr iv) (s.setAgenda rest)
  | .request src bytes =>
    if s.disp.isSome || s.engine.isSome then background s else serve src bytes (s.setAgenda rest)
  | .readR2 => if s.disp.isSome || s.engine.isSome then background s else beginReadR2 (s.setAgenda rest)

/-- One step of the machine. A machine that has raised an assertion fault takes none (60_exceptions.md rule R266). -/
def takeStep (s : State) : Host.Outcome State Fault Refusal :=
  match s.faulted with
  | some reason => .fault (.assertFault reason)
  | none =>
    match s.agenda with
    | [] => background s
    | turn :: rest => takeTurn turn rest s

/-! ### Placing an instruction where the next step fetches it -/

/-- The requester an opcode-table word needs: ENGINE for the two internal operations (rule R98), HOST for all others. -/
def requesterFor (c : Cfg) (bytes : List Byte) : Requester :=
  match decode c bytes with
  | .instr i => if internalOnly i then .engine else .host
  | _ => .host

/-- The packet is the next turn and nothing is in progress, so that the next step serves it. -/
def placeRequest (nbits w : Nat) (s : State) : State :=
  let bytes := tableBytes s.cfg.littleEndian nbits w
  (((s.setFaulted none).setEngine none).setDisp none).setAgenda
    (.request (requesterFor s.cfg bytes) bytes :: s.agenda)

end Sys2Proof.Machine
end

