-- ==== Sys2Proof/Machine/Step.lean ====
section
/-! DEFINITION. The step function, and an opcode-table word placed where the next step fetches it. -/

namespace Sys2Proof.Machine

/-- One step: the next turn of the agenda, or the agent in progress (`takeStep`). -/
def step (s : State) : Host.Outcome State Fault Refusal :=
  takeStep s

/-- The instruction whose bits are `w` (numbered as spec/opcode_table.json numbers them) as the next request. It stands for
HOST's submission of a packet (log entry 3). -/
def State.withFetchWord (s : State) (nbits w : Nat) : State :=
  placeRequest nbits w s

end Sys2Proof.Machine
end

