-- ==== Sys2Proof/Safety.lean ====
section
/-! DEFINITION. What counts as a safe run, in the terms the statements use: a block at rest, runs of many steps, the states
the spec's step sequences leave, the invariant of the machine, and the shapes of a delivery and of a blocking transfer. -/

namespace Sys2Proof.Machine

/-! ### Rest and runs -/

/-- Nothing is in progress and nothing is to come: no assertion fault, ENGINE and DISPATCHER idle (70_reset_and_hazards.md
rule R292), no turn given. -/
def Quiet (s : State) : Prop :=
  s.faulted = none ∧ s.engine = none ∧ s.disp = none ∧ s.agenda = []

/-- `n` steps, stopping at the first fault or refusal. With an empty agenda no agent but the one in progress moves. -/
def run : Nat → State → Host.Outcome State Fault Refusal
  | 0, s => .next s
  | n + 1, s =>
    match step s with
    | .next t => run n t
    | .fault r => .fault r
    | .refused r => .refused r

/-- The turns of one command sent by ENGINE and answered by DEVICE: the three clears and the five writes
(41_command_interface.md rules R165 to R167), the two events, and ENGINE's reads after them. -/
def answeredCommand (p : Resp) (reads : Nat) : List Turn :=
  List.replicate 8 .engine ++ [.event .cmdSent, .event (.respOk p 1)] ++ List.replicate reads .engine

/-- The sixteen header bits of a register transaction (30_encoding.md rule R85) at the default offsets of 10_state.md rule R51,
read off its encoding. -/
def headerOf (i : Instr) : BitVec 16 :=
  match encode { Config.reference with littleEndian := false } i with
  | h1 :: h0 :: _ => h1 ++ h0
  | _ => 0#16

/-! ### What the spec's step sequences leave -/

/-- After the five writes of 41_command_interface.md rule R165: the command registers, and the command latched at the
trigger (40_register_model.md rule R114). -/
def State.commandSent (s : State) (index : BitVec 6) (arg : Word) : State :=
  { s with
    regs := { s.regs with
      cmdx := index.setWidth 8
      arg1 := arg.extractLsb' 24 8
      arg2 := arg.extractLsb' 16 8
      arg3 := arg.extractLsb' 8 8
      arg4 := arg.extractLsb' 0 8 }
    hid := { s.hid with cmdPhase := .sending, curIndex := index, curArg := arg } }

/-- After `clear_all` (41_command_interface.md rule R166). -/
def State.latchesCleared (s : State) : State :=
  { s with regs := { s.regs with isr := 0, sbisr := 0, mbisr := 0 } }

/-- After `mask_all` (44_nonblocking_transfers.md rule R226). -/
def State.allMasked (s : State) : State :=
  { s with regs := { s.regs with imr := 0, sbimr := 0, mbimr := 0 } }

/-- The card status `read_payload32` reads (41_command_interface.md rule R168). -/
def State.cardStatus (s : State) : Word :=
  s.regs.rr.rr1 ++ s.regs.rr.rr2 ++ s.regs.rr.rr3 ++ s.regs.rr.rr4

/-- The status register of a chain's tier (45_interrupt_state_machine.md rule R236). -/
def State.tierStatus (s : State) (x : Chain) : Byte :=
  match x.tier with
  | .sb => s.regs.sbisr
  | .mb => s.regs.mbisr

/-- After `abort(code)` (45_interrupt_state_machine.md rule R240). -/
def State.aborted (s : State) (code : ErrCode) : State :=
  { s.latchesCleared.commandSent 12#6 0#32 with
    st := { s.st with state := .stopTransmission, tempErr := code } }

/-- After `advance(next, arg, cmd)` (45_interrupt_state_machine.md rule R249), the snapshot being the latches themselves. -/
def State.advanced (s : State) (next : FsmState) (arg : Word) (index : BitVec 6) : State :=
  { ({ s with regs := { s.regs with isr := 0 } }).commandSent index arg with
    st := { s.st with state := next } }

/-- After `start_nb(chain, s, n, t0, to)` has returned (44_nonblocking_transfers.md rule R216); the ticks have
`cfg.TICK_BITS` bits. -/
def State.started (s : State) (x : Chain) (sector : Word) (count : BitVec 16) (startTick timeoutTicks : Nat) : State :=
  let masks : Byte × Byte := match x.tier with
    | .sb => (0x1F#8, 0x00#8)
    | .mb => (0x00#8, 0x1F#8)
  let t := s.latchesCleared.commandSent 13#6 (s.cfg.rca ++ 0#16)
  { t with
    regs := { t.regs with imr := 0x0E#8, sbimr := masks.1, mbimr := masks.2 }
    st := { s.st with
      state := x.parseStatus
      sector := sector
      blocks := count
      startTick := startTick
      timeoutTicks := timeoutTicks
      errState := .processing }
    engine := none
    result := some (.errCode .processing) }

/-- The instruction sends the command by its five writes (30_encoding.md rule R99, 41_command_interface.md rule R165): with no
command open they are five steps, the last of which triggers; with one open the trigger is refused
(40_register_model.md rule R136). -/
def SendsCommand (i : Instr) (index : BitVec 6) (arg : Word) : Prop :=
  ∀ s : State, Quiet s →
    ∃ t, exec i s = .next t
      ∧ (s.hid.cmdPhase = .none → run 5 t = .next { s.commandSent index arg with result := none })
      ∧ (s.hid.cmdPhase ≠ .none → run 5 t = .refused .commandInFlight)

/-! ### The shape of a delivery and of a blocking transfer -/

/-- The registers a delivery writes (45_interrupt_state_machine.md rules R237 to R249). -/
def deliveryWrites : Reg → Bool
  | .icr | .sbicr | .mbicr | .imr | .sbimr | .mbimr | .cmdx | .arg1 | .arg2 | .arg3 | .arg4 => true
  | _ => false

/-- A step a delivery may plan: those writes, the snapshot, the response bytes, the three fields of `st` it assigns. -/
def deliveryMicro : Micro → Bool
  | .write r _ => deliveryWrites r
  | .payloadByte _ | .snapIsr | .snapSbisr | .snapMbisr => true
  | .setSt (.state _) | .setSt (.errState _) | .setSt (.tempErr _) => true
  | _ => false

/-- A test a delivery may come to. -/
def deliveryPoint : Point → Bool
  | .ret none | .dispatch | .checkpoint _ _ => true
  | _ => false

/-- The context is that of a delivery. -/
def Ctx.isDelivery (c : Ctx) : Bool :=
  c.todo.all deliveryMicro && deliveryPoint c.point

/-- A step a blocking transfer may plan: register transactions, never an engine register
(43_blocking_transfers.md rule R202). -/
def blockingMicro : Micro → Bool
  | .write _ _ | .pollSent | .pollResponse | .pollDone | .payloadByte _ | .fill _ _ | .drain (.caller _) _ => true
  | _ => false

/-- The waits of a blocking transfer. -/
def blockingWait : Wait → Bool
  | .writeBefore _ _ | .writeAfter | .readBefore _ (.caller _) | .readAfter (.caller _) => true
  | _ => false

/-- What a command's result is used for in a blocking transfer. -/
def blockingCont : Cont → Bool
  | .ready w => blockingWait w
  | .writeCmd _ | .readCmd (.caller _) => true
  | _ => false

/-- A test a blocking transfer may come to. -/
def blockingPoint : Point → Bool
  | .ret _ | .writeDone | .readDone (.caller _) => true
  | .result k _ | .responded _ k | .parsed k => blockingCont k
  | _ => false

/-- The context is that of a blocking transfer. -/
def Ctx.isBlocking (c : Ctx) : Bool :=
  c.todo.all blockingMicro && blockingPoint c.point

/-- The start of a delivery (45_interrupt_state_machine.md rule R235). -/
def Ctx.deliveryStart : Ctx :=
  ⟨[.snapIsr, .snapSbisr, .snapMbisr], .dispatch, Locals.start⟩

/-- The context of `exit(result)` (42_initialization.md rule R190) at its first step. -/
def Ctx.initExit (c : Cfg) (result : ErrCode) (l : Locals) : Ctx :=
  ⟨clearAll ++
    [.setSt (.state .idle), .setSt (.errState result), .setSt (.tempErr result), .setSt (.blocks 0),
     .setSt (.sector 0), .setSt (.startTick 0), .setSt (.timeoutTicks (2 ^ c.tickBits - 1)),
     .setInitialised (result == .initSuccess)],
   .ret (some (.errCode result)), l⟩

/-- The context of `issue_command(arg, index)` (41_command_interface.md rule R167) at its first step, for an index whose
class is not `none`; `k` is what its result is used for. -/
def Ctx.issuing (index : BitVec 6) (arg : Word) (k : Cont) (l : Locals) : Ctx :=
  ⟨clearAll ++ fiveWrites index arg ++ [.pollSent, .pollResponse], .responded index k, l⟩

/-- How many steps a delivery takes at most after the test it comes to (45_interrupt_state_machine.md rules R236 to R249):
none after its end, an abort's ten after a checkpoint, and after the dispatch those and the four reads of a card status. -/
def Point.deliverySteps : Point → Nat
  | .dispatch => 14
  | .checkpoint _ _ => 10
  | _ => 0

/-- How many steps a delivery takes at most from here. -/
def Ctx.deliverySteps (c : Ctx) : Nat := c.todo.length + c.point.deliverySteps

/-! ### The result of a command, and the end of a block read -/

/-- With no turn given and no delivery, ENGINE is at the last step of an `issue_command` whose result is `r` and goes to `k`
(41_command_interface.md rule R167): a class `none` command is sent; an error flag has come; an R2 or R3 response has come;
or the fourth byte of an R1 or R1b card status is read and the status parses to `r` (rules R168, R169). -/
def State.CommandEnds (s : State) (k : Cont) (r : CmdResult) : Prop :=
  s.faulted = none ∧ s.disp = none ∧ s.agenda = [] ∧ ∃ l : Locals,
    (s.engine = some ⟨[.pollSent], .result k .success, l⟩ ∧ s.regs.isr.getLsbD 0 = true ∧ r = .success)
    ∨ (∃ index, s.engine = some ⟨[.pollResponse], .responded index k, l⟩
        ∧ ((s.regs.isr &&& 0x0C#8 ≠ 0#8 ∧ r = .fail)
          ∨ (s.regs.isr &&& 0x0E#8 = 0x02#8 ∧ (respClass index = some .r2 ∨ respClass index = some .r3)
            ∧ r = .success)))
    ∨ (s.engine = some ⟨[.payloadByte 4], .parsed k, l⟩
        ∧ parseR1 s.cfg (l.payload.extractLsb' 0 24 ++ s.regs.rr.rr4) = r)

/-- ENGINE's next steps from `s` are those of `issue_command(arg, index)`, whose result goes to `k`; nothing else changed. -/
def State.Issues (s : State) (index : BitVec 6) (arg : Word) (k : Cont) (o : Host.Outcome State Fault Refusal) : Prop :=
  ∃ l, o = .next { s with engine := some (Ctx.issuing index arg k l) }

/-- `init` goes to `exit(code)` (42_initialization.md rules R180, R190); nothing else changed. -/
def State.Exits (s : State) (code : ErrCode) (o : Host.Outcome State Fault Refusal) : Prop :=
  ∃ l, o = .next { s with engine := some (Ctx.initExit s.cfg code l) }

/-- The operation is over and has handed `code` to HOST; nothing else changed. -/
def State.Returns (s : State) (code : ErrCode) (o : Host.Outcome State Fault Refusal) : Prop :=
  o = .next { s with engine := none, result := some (.errCode code) }

/-- `read_block` is over with an error code: `sbr` returns it (43_blocking_transfers.md rule R204), `init` exits with it
(42_initialization.md rule R189). -/
def State.ReadFails (s : State) (dest : Dest) (code : ErrCode) (o : Host.Outcome State Fault Refusal) : Prop :=
  match dest with
  | .caller _ => s.Returns code o
  | .scratch => s.Exits code o

/-! ### Counting transactions -/

/-- The step is a register transaction, not an engine-register update (00_scope.md rule R2). -/
def Micro.isTransaction : Micro → Bool
  | .setInst _ | .setSt _ | .setInitialised _ => false
  | _ => true

/-- 1 when the next step of DISPATCHER is a register transaction. -/
def dispatcherTransaction (s : State) : Nat :=
  match s.disp with
  | none => 0
  | some c =>
    match c.todo with
    | [] => 0
    | m :: _ => if m.isTransaction then 1 else 0

/-- The register transactions DISPATCHER performs in a run of `n` steps. -/
def dispatcherTransactions : Nat → State → Nat
  | 0, _ => 0
  | n + 1, s =>
    dispatcherTransaction s +
      match step s with
      | .next t => dispatcherTransactions n t
      | _ => 0

/-! ### The Status record while an operation or a delivery is part-way (44_nonblocking_transfers.md rule R225) -/

/-- The steps a context has planned. -/
def plannedSteps : Option Ctx → List Micro
  | none => []
  | some c => c.todo

/-- The Status record after the assignments among planned steps, in order. -/
def applySt : List Micro → Status → Status
  | [], t => t
  | .setSt u :: rest, t => applySt rest (updateSt u t)
  | _ :: rest, t => applySt rest t

/-- The Status record once the delivery in progress and then the operation in progress have made the assignments they have
planned. -/
def State.plannedSt (s : State) : Status :=
  applySt (plannedSteps s.engine) (applySt (plannedSteps s.disp) s.st)

/-- A terminal state (10_state.md rule R24). -/
def FsmState.terminal : FsmState → Bool
  | .idle | .error => true
  | _ => false

/-- `err_state = Processing` exactly when the state is neither `Idle` nor `Error` (rule R225). -/
def Status.InFlightAgrees (t : Status) : Prop :=
  t.errState = .processing ↔ t.state.terminal = false

/-- Among the planned steps is an assignment to `st.state`. -/
def assignsState (todo : List Micro) : Bool :=
  todo.any fun m => match m with
    | .setSt (.state _) => true
    | _ => false

/-- Among the planned steps is an assignment to `st.err_state`. -/
def assignsErrState (todo : List Micro) : Bool :=
  todo.any fun m => match m with
    | .setSt (.errState _) => true
    | _ => false

/-- Every planned assignment to `st.state` is followed by one to `st.err_state`, as in rules R216, R221 and
42_initialization.md rule R190. -/
def stateThenErrState : List Micro → Bool
  | [] => true
  | .setSt (.state _) :: rest => assignsErrState rest && stateThenErrState rest
  | _ :: rest => stateThenErrState rest

/-- A start operation has assigned `st.state` and has still to assign the marker `Processing` (rule R216). -/
def halfStarted (s : State) : Prop :=
  .setSt (.errState .processing) ∈ plannedSteps s.engine ∧ assignsState (plannedSteps s.engine) = false

/-- The tests only a delivery comes to. -/
def Point.ofDelivery : Point → Bool
  | .dispatch | .checkpoint _ _ => true
  | _ => false

/-- What rule R225 needs at every instant, an operation or a delivery part-way included. -/
structure StatusInv (s : State) : Prop where
  agrees : s.plannedSt.InFlightAgrees
  temp_err : (applySt (plannedSteps s.disp) s.st).tempErr ≠ .processing
  temp_planned : .setSt (.tempErr .processing) ∉ plannedSteps s.engine
  engine_order : stateThenErrState (plannedSteps s.engine) = true
  engine_point : ∀ c, s.engine = some c → c.point.ofDelivery = false
  half_started : halfStarted s → s.disp = none
  before_test : ∀ c, s.disp = some c → c.point.ofDelivery = true → ∀ u, .setSt u ∉ c.todo
  at_checkpoint : ∀ c x k, s.disp = some c → c.point = .checkpoint x k → s.st.state.terminal = false

/-! ### The invariant -/

/-- A planned assignment of a tick assigns one of `cfg.TICK_BITS` bits. -/
def Micro.ticksFit (c : Cfg) : Micro → Bool
  | .setSt (.startTick v) | .setSt (.timeoutTicks v) => decide (v < 2 ^ c.tickBits)
  | _ => true

/-- What every reachable state satisfies: reserved bits read 0 (10_state.md rules R30, R35 to R37), caller memory is in
canonical form, the FIFOs hold at most their depth (rule R47), a command in flight has a response class, and one whose
answer is awaited has an answer (40_register_model.md rules R114, R128), `initialised` follows an exit of `init`
(42_initialization.md rule R190), the ticks of `st` have `cfg.TICK_BITS` bits (rule R22), and what DISPATCHER has in
progress is a delivery. -/
structure Inv (s : State) : Prop where
  cmdx_reserved : s.regs.cmdx &&& 0xC0#8 = 0#8
  isr_reserved : s.regs.isr &&& 0xF0#8 = 0#8
  sbisr_reserved : s.regs.sbisr &&& 0xE0#8 = 0#8
  mbisr_reserved : s.regs.mbisr &&& 0xE0#8 = 0#8
  imr_reserved : s.regs.imr &&& 0xF0#8 = 0#8
  sbimr_reserved : s.regs.sbimr &&& 0xE0#8 = 0#8
  mbimr_reserved : s.regs.mbimr &&& 0xE0#8 = 0#8
  mem_canonical : Memory.wf s.mem = true
  wfifo_fits : s.hid.wfifo.length ≤ fifoDepth s.cfg
  rfifo_fits : s.hid.rfifo.length ≤ fifoDepth s.cfg
  command_known : s.hid.cmdPhase ≠ .none → respClass s.hid.curIndex ≠ none
  answer_due : s.hid.cmdPhase = .awaitingResponse → respClass s.hid.curIndex ≠ some .none
  init_exited : s.initialised = true → s.initExited = true
  start_tick_fits : s.st.startTick < 2 ^ s.cfg.tickBits
  timeout_ticks_fit : s.st.timeoutTicks < 2 ^ s.cfg.tickBits
  planned_ticks_fit : (plannedSteps s.engine).all (Micro.ticksFit s.cfg) = true
  delivery : ∀ c, s.disp = some c → c.isDelivery = true

end Sys2Proof.Machine
end

