-- ==== Sys2Proof/Certificates/Slice0/Obligations.lean ====
section
/-! DEFINITION. The statements for the provers. `draws` is the counter the free values are read from (log entry 6) and `result`
the value last handed to HOST (log entry 19): the model's own fields, named here only because whole states are compared. -/

open Sys2Proof Sys2Proof.Machine

/-! ### Encodings -/

/-- Decode and encode agree: for every well-formed instruction and every well-formed configuration, both byte orders and any
offset table (30_encoding.md rules R85, R86, R95; 00_scope.md rule R5). -/
def Obligations.DecodeOfEncodeIsTheInstruction : Prop :=
  ∀ (c : Cfg) (i : Instr), c.wellFormed = true → i.wellFormed = true → decode c (encode c i) = .instr i

/-- A packet that decodes to an instruction is that instruction's encoding; of a command only bits 7:6 of `CMDX` are
ignored (30_encoding.md rule R98). So no two packets of the formats `REG` and `OP` stand for one instruction. That no other
packet does rests on the model's reading that unused operands, bits and data bytes must be zero (log entry 15, DEDUCED) and on
its layout of a packet (log entry 13, DESIGN CHOICE): rules R85, R95 and R98 give the fields, not that. -/
def Obligations.EncodeOfDecodeIsThePacket : Prop :=
  ∀ (c : Cfg) (bytes : List Byte) (i : Instr), decode c bytes = .instr i →
    encode c i = bytes
    ∨ ∃ x a1 a2 a3 a4, bytes = [x, a1, a2, a3, a4] ∧ encode c i = [x &&& 0x3F#8, a1, a2, a3, a4]

/-- Words written out from 95_test_vectors.md decode to what they stand for: register headers (its table 2.1 and program
P1), commands (table 2.2), requests (table 2.11). The six bytes of a `REG` packet and the eighteen of a request, their order
included, are the model's layout (log entry 13, DESIGN CHOICE); rules R85 and R95 give the header and the operands. -/
def Obligations.WordsOfTheSpecDecode : Prop :=
  decode Config.reference [0x2C, 0x80, 0xFF, 0x00, 0x00, 0x00] = .instr (.w8Icr 0xFF)
  ∧ decode Config.reference [0x0A, 0x00, 0x00, 0x00, 0x00, 0x00] = .instr .r8Rr1
  ∧ decode Config.reference [0x1C, 0xC0, 0x00, 0x01, 0x02, 0x03] = .instr (.w32Wdr 0x03020100)
  ∧ decode Config.reference [0x50, 0x20, 0x00, 0x00, 0x00, 0x00] = .instr .r16Blr
  ∧ decode Config.reference [0x0D, 0x00, 0x01, 0x00, 0x00] = .instr (.sendStatus 0x00010000)
  ∧ decode Config.reference [0x18, 0xFF, 0xFF, 0xFF, 0xFF] = .instr (.writeSingleBlock 0xFFFFFFFF)
  ∧ decode Config.reference [0x02, 0x01, 0x00, 0x10, 0x00, 0x80, 0x34, 0x12, 0x00, 0x00, 0, 0, 0, 0, 0, 0, 0, 0]
      = .instr (.sbw true 0x80001000 0x1234)
  ∧ decode Config.reference [0x06, 0x01, 0x08, 0x00, 0x00, 0x00, 0x02, 0x00, 0x00, 0x00, 0x64, 0, 0, 0, 0x32, 0, 0, 0]
      = .instr (.mbw true 8 2 100 50)

/-- What is not admitted is rejected by its name (30_encoding.md rule R98): a `REG` header with `SZ` = 3, non-zero bits 12:7 or
an offset above 0x51; a command index with no row; an `op` outside rule R95, non-zero flag bits, a policy 3; and the two
internal operations from HOST. Bits 7:6 of `CMDX` are not part of the index. That a policy operand above 3 is rejected too is
the model's reading that bits an operand does not use are zero (log entry 15, DEDUCED); the bytes of the packets are those of
log entry 13 (DESIGN CHOICE). -/
def Obligations.EncodingsNotAdmittedAreRejected : Prop :=
  (∀ (k : Cfg) (header : BitVec 16) (data : Word),
      header.extractLsb' 13 2 = 3#2 ∨ header.extractLsb' 7 6 ≠ 0#6 ∨ 0x51 < (header.extractLsb' 0 7).toNat →
      decode k (bytesOfHalf k.littleEndian header ++ bytesOfWord k.littleEndian data) = .rejected .badTransaction)
  ∧ (∀ (k : Cfg) (x a1 a2 a3 a4 : Byte),
      decode k [x, a1, a2, a3, a4] = decode k [x &&& 0x3F#8, a1, a2, a3, a4]
      ∧ (respClass (x.extractLsb' 0 6) = none → decode k [x, a1, a2, a3, a4] = .rejected .unknownIndex))
  ∧ (∀ (k : Cfg) (op flags : Byte) (a b c d : Word),
      op = 0#8 ∨ 0x0E < op.toNat ∨ flags.extractLsb' 1 7 ≠ 0#7 ∨ (op = 0x0D#8 ∧ 3 ≤ c.toNat) →
      decode k (op :: flags :: (bytesOfWord k.littleEndian a ++ bytesOfWord k.littleEndian b
          ++ bytesOfWord k.littleEndian c ++ bytesOfWord k.littleEndian d))
        = .rejected .badRequest)
  ∧ (∀ (s : State) (bytes : List Byte) (rest : List Turn) (i : Instr),
      s.faulted = none → s.engine = none → s.disp = none → s.agenda = .request .host bytes :: rest →
      decode s.cfg bytes = .instr i → internalOnly i = true → step s = .refused .badRequest)

/-! ### A step -/

/-- A step runs the decoded instruction: a packet that decodes to `i`, submitted while nothing is in progress, is removed from
the agenda and `i` is executed. The same for a table word placed by `withFetchWord`, with the default offsets. The agenda is
the model's choice (log entry 3). -/
def Obligations.StepRunsTheDecodedInstruction : Prop :=
  (∀ (s : State) (src : Requester) (bytes : List Byte) (rest : List Turn) (i : Instr),
      s.faulted = none → s.engine = none → s.disp = none → s.agenda = .request src bytes :: rest →
      decode s.cfg bytes = .instr i → (internalOnly i = true → src = .engine) →
      step s = exec i { s with agenda := rest })
  ∧ (∀ (s : State) (nbits w : Nat) (i : Instr),
      s.cfg.littleEndian = true → s.cfg.off = Config.offsetTable → decodeTableWord nbits w = some i →
      step (s.withFetchWord nbits w) = exec i { s with faulted := none, engine := none, disp := none })

/-- HOST requests one operation at a time, and DISPATCHER preempts ENGINE (20_memory.md rule R71 items 2 and 4). The form this
takes is the model's agenda (log entry 3, DESIGN CHOICE). First clause: a request submitted while an operation or a delivery is
in progress stays on the agenda, and the agent in progress takes the step, DISPATCHER before ENGINE. Second clause: HOST calling
the entry point itself falls between two steps of an operation, whatever ENGINE has in progress and whatever `irq` is (rules R71
item 3, R235, R271); ENGINE's position stays, and only a delivery in progress is ended first (rule R272). That a packet of `isr`
is a request, and HOST's call at any time a turn of its own, is log entry 32 (DESIGN CHOICE). -/
def Obligations.RequestWaitsForTheOperationInProgress : Prop :=
  (∀ (s : State) (src : Requester) (bytes : List Byte) (rest : List Turn),
    s.faulted = none → s.agenda = .request src bytes :: rest → (s.engine ≠ none ∨ s.disp ≠ none) →
    (s.disp ≠ none → step s = dispatcherStep s)
    ∧ (s.disp = none → step s = engineStep s)
    ∧ ∀ t, step s = .next t → t.agenda = s.agenda)
  ∧ ∀ (s : State) (iv : Bool) (rest : List Turn), s.faulted = none → s.agenda = .hostIsr iv :: rest →
    (s.disp ≠ none → step s = dispatcherStep s ∧ ∀ t, step s = .next t → t.agenda = s.agenda)
    ∧ (s.disp = none → step s = exec (.isr iv) { s with agenda := rest }
      ∧ ∀ t, step s = .next t → t.engine = s.engine)

/-- The faulted state is a sink (60_exceptions.md rule R266): a machine that has raised an assertion fault serves nothing more.
That the fault itself is a next state and the steps after it the fault outcome is log entry 9. -/
def Obligations.AssertionFaultIsASink : Prop :=
  ∀ (s : State) (reason : AssertReason), s.faulted = some reason → step s = .fault (.assertFault reason)

/-- The machine right after reset satisfies the invariant. -/
def Obligations.InvariantHoldsAfterReset : Prop :=
  Inv State.reset

/-- Every step keeps the invariant: reserved bits read 0, memory is canonical, no FIFO holds more than its depth, a command in
flight has a response class, the ticks of `st` have `cfg.TICK_BITS` bits, DISPATCHER has a delivery or nothing. What rule R225
adds is `InFlightAgreesWithTheState`. -/
def Obligations.EveryStepKeepsTheInvariant : Prop :=
  ∀ s t : State, Inv s → step s = .next t → Inv t

/-- A transfer is in flight exactly when the state is neither `Idle` nor `Error` (44_nonblocking_transfers.md rule R225):
`st.err_state = Processing` agrees with `st.state` whenever neither ENGINE nor DISPATCHER has an assignment to `st` still to
make (third clause). The other two say that this lasts: `StatusInv`, which holds the planned assignments against each other,
holds after reset (the reset values of `st` are log entry 1) and every step keeps it. One step is left out, because from it the
rule fails: an interrupt entered between a start operation's assignments to `st.state` and `st.err_state`, by the platform with
`irq` 1 or by HOST calling `isr` itself (log entry 29). -/
def Obligations.InFlightAgreesWithTheState : Prop :=
  StatusInv State.reset
  ∧ (∀ s t : State, Inv s → StatusInv s → step s = .next t →
      ¬ (halfStarted s ∧ ((irq s = true ∧ ∃ iv rest, s.agenda = .deliver iv :: rest)
        ∨ ∃ iv rest, s.agenda = .hostIsr iv :: rest)) → StatusInv t)
  ∧ (∀ s : State, StatusInv s → (∀ u, .setSt u ∉ plannedSteps s.engine) → (∀ u, .setSt u ∉ plannedSteps s.disp) →
      (s.st.errState = .processing ↔ s.st.state ≠ .idle ∧ s.st.state ≠ .error))

/-- No step changes the configuration (00_scope.md rule R5). Nor which caller memory exists, which the model holds as extents
(log entry 8, DESIGN CHOICE). -/
def Obligations.ConfigurationNeverChanges : Prop :=
  ∀ s t : State, step s = .next t → t.cfg = s.cfg ∧ t.callerMem = s.callerMem

/-- Caller memory is written by one step only: ENGINE moving a word of a block read into the caller's buffer
(20_memory.md rules R60, R67; 43_blocking_transfers.md rule R201). Every byte outside the word being moved reads as before. -/
def Obligations.OnlyABlockReadWritesCallerMemory : Prop :=
  ∀ (s t : State) (a : Nat), Inv s → step s = .next t →
    (∀ c buf i rest, s.engine = some c → c.todo = .drain (.caller buf) i :: rest →
      a < buf.toNat + 4 * i ∨ buf.toNat + 4 * i + 4 ≤ a) →
    t.mem.read a = s.mem.read a

/-- A step of DISPATCHER changes only the command registers, the masks, the latches, the command latch, and `state`,
`err_state` and `temp_err` of `st` (45_interrupt_state_machine.md rules R235 to R249): no FIFO, no data phase, no `inst`, no
memory, nothing of ENGINE's. -/
def Obligations.DeliveryTouchesOnlyItsOwnRegisters : Prop :=
  ∀ (s t : State) (c : Ctx), s.disp = some c → c.isDelivery = true → dispatcherStep s = .next t →
    t = { s with
      regs := { s.regs with
        cmdx := t.regs.cmdx, arg1 := t.regs.arg1, arg2 := t.regs.arg2, arg3 := t.regs.arg3, arg4 := t.regs.arg4
        imr := t.regs.imr, sbimr := t.regs.sbimr, mbimr := t.regs.mbimr
        isr := t.regs.isr, sbisr := t.regs.sbisr, mbisr := t.regs.mbisr }
      hid := { s.hid with cmdPhase := t.hid.cmdPhase, curIndex := t.hid.curIndex, curArg := t.hid.curArg }
      st := { s.st with state := t.st.state, errState := t.st.errState, tempErr := t.st.tempErr }
      disp := t.disp }

/-- A blocking transfer never writes the Status record, nor any other engine register (43_blocking_transfers.md rule R202): both
requests begin such an operation, every step of one keeps the engine registers and leaves such an operation or none. -/
def Obligations.BlockingTransferKeepsTheStatusRecord : Prop :=
  (∀ (s t : State) (a b : Word), exec (.sbw true a b) s = .next t ∨ exec (.sbr true a b) s = .next t →
      t.st = s.st ∧ t.inst = s.inst ∧ ∃ c, t.engine = some c ∧ c.isBlocking = true)
  ∧ (∀ (s t : State) (c : Ctx), s.engine = some c → c.isBlocking = true → engineStep s = .next t →
      t.st = s.st ∧ t.inst = s.inst ∧ t.par = s.par ∧ t.initialised = s.initialised ∧ t.initExited = s.initExited
      ∧ ∀ c', t.engine = some c' → c'.isBlocking = true)

/-- A latch is set by a CONTROLLER event, or, `UOF` only, by a FIFO port (10_state.md rules R36, R37, R52): a step that is no
event sets no bit of `ISR` and no bit but `UOF` of the two block tiers. -/
def Obligations.LatchesAreSetByControllerOrAFifoPort : Prop :=
  ∀ s t : State, step s = .next t → (∀ e rest, s.agenda ≠ .event e :: rest) →
    t.regs.isr &&& ~~~s.regs.isr = 0#8
    ∧ (t.regs.sbisr &&& ~~~s.regs.sbisr) &&& 0xEF#8 = 0#8
    ∧ (t.regs.mbisr &&& ~~~s.regs.mbisr) &&& 0xEF#8 = 0#8

/-- A CONTROLLER event is one step (40_register_model.md section 3): taken where its precondition holds, passed over where it does
not (log entry 17). It never clears a latch, never writes a mask, never changes an engine register (rule R135 item 4): it
writes the response registers, the latches, the hidden state and the words handed to DEVICE, and keeps the latched command. -/
def Obligations.EventsClearNoLatchAndWriteNoMask : Prop :=
  (∀ (s : State) (e : Event) (rest : List Turn), s.faulted = none → s.agenda = .event e :: rest →
      step s = .next ((controllerStep e { s with agenda := rest }).getD { s with agenda := rest }))
  ∧ (∀ (s t : State) (e : Event), controllerStep e s = some t →
      s.regs.isr &&& ~~~t.regs.isr = 0#8 ∧ s.regs.sbisr &&& ~~~t.regs.sbisr = 0#8
      ∧ s.regs.mbisr &&& ~~~t.regs.mbisr = 0#8
      ∧ t.hid.curIndex = s.hid.curIndex ∧ t.hid.curArg = s.hid.curArg
      ∧ t = { s with
          regs := { s.regs with
            rr := t.regs.rr, isr := t.regs.isr, sbisr := t.regs.sbisr, mbisr := t.regs.mbisr }
          hid := t.hid
          deviceWords := t.deviceWords })

/-! ### Reset -/

/-- Hardware reset (70_reset_and_hazards.md rule R290): controller registers zero, `BLR` 0x0200, hidden state idle and empty,
`irq` 0, `initialised` and `faulted` false, ENGINE and DISPATCHER idle. Nothing is said of the engine registers, whose reset
values are the model's choice (log entry 1), nor of the model's own fields. -/
def Obligations.ResetLeavesTheControllerIdle : Prop :=
  State.reset.regs =
    { cmdx := 0, arg1 := 0, arg2 := 0, arg3 := 0, arg4 := 0
      rr := ⟨0, 0, 0, 0, 0, 0, 0, 0, 0, 0, 0, 0, 0, 0, 0, 0, 0⟩
      imr := 0, sbimr := 0, mbimr := 0, isr := 0, sbisr := 0, mbisr := 0
      clkoe := false, clkr := 0, datato := 0 }
  ∧ State.reset.hid =
    { cmdPhase := .none, curIndex := 0, curArg := 0, dataPhase := .none, dataTier := .sb, wordsLeft := 0
      wfifo := [], rfifo := [] }
  ∧ irq State.reset = false
  ∧ State.reset.initialised = false ∧ State.reset.initExited = false ∧ State.reset.faulted = none
  ∧ State.reset.engine = none ∧ State.reset.disp = none
  ∧ (readReg .blr State.reset).1 = 0x0200#32 ∧ (readReg .ctrl State.reset).1 = 0#32

/-! ### Register transactions

Each statement gives the headers of rule R85, the whole state after the transaction, and the value handed to HOST. -/

/-- `SR` (40_register_model.md rule R110): a read is a draw, constrained by nothing; a write does nothing. -/
def Obligations.StatusRegisterReadIsADraw : Prop :=
  headerOf .r8Sr = 0x0000#16 ∧ (∀ v, headerOf (.w8Sr v) = 0x8000#16)
  ∧ ∀ s : State,
    exec .r8Sr s = .next { s with draws := s.draws + 1, result := some (.read8 (Config.draw8 s.draws)) }
    ∧ ∀ v, exec (.w8Sr v) s = .next { s with result := none }

/-- `VR`, `MJVR`, `MIVR` (rule R111): reads give the build constants, writes do nothing, and the values never change: not by any
step, not by a software reset. -/
def Obligations.VersionRegistersAreConstant : Prop :=
  headerOf .r8Vr = 0x0001#16 ∧ headerOf .r8Mjvr = 0x0002#16 ∧ headerOf .r8Mivr = 0x0003#16
  ∧ (∀ v, headerOf (.w8Vr v) = 0x8001#16 ∧ headerOf (.w8Mjvr v) = 0x8002#16 ∧ headerOf (.w8Mivr v) = 0x8003#16)
  ∧ ∀ s : State,
    exec .r8Vr s = .next { s with result := some (.read8 s.cfg.vrValue) }
    ∧ exec .r8Mjvr s = .next { s with result := some (.read8 s.cfg.mjvrValue) }
    ∧ exec .r8Mivr s = .next { s with result := some (.read8 s.cfg.mivrValue) }
    ∧ (∀ v, exec (.w8Vr v) s = .next { s with result := none }
      ∧ exec (.w8Mjvr v) s = .next { s with result := none }
      ∧ exec (.w8Mivr v) s = .next { s with result := none })
    ∧ ∀ t, step s = .next t ∨ exec (.w8Ctrl 0x01) s = .next t →
      exec .r8Vr t = .next { t with result := some (.read8 s.cfg.vrValue) }
      ∧ exec .r8Mjvr t = .next { t with result := some (.read8 s.cfg.mjvrValue) }
      ∧ exec .r8Mivr t = .next { t with result := some (.read8 s.cfg.mivrValue) }

/-- `CMDX` (rule R112): a write stores six bits and touches nothing else, the command in flight included; a read gives them.
`ARG1`, `ARG2`, `ARG3` (rule R113): a write only stores, a read gives the byte. -/
def Obligations.CommandAndArgumentRegistersOnlyStore : Prop :=
  headerOf .r8Cmdx = 0x0004#16 ∧ (∀ v, headerOf (.w8Cmdx v) = 0x8004#16)
  ∧ headerOf .r8Arg1 = 0x0005#16 ∧ headerOf .r8Arg2 = 0x0006#16 ∧ headerOf .r8Arg3 = 0x0007#16
  ∧ (∀ v, headerOf (.w8Arg1 v) = 0x8005#16 ∧ headerOf (.w8Arg2 v) = 0x8006#16 ∧ headerOf (.w8Arg3 v) = 0x8007#16)
  ∧ ∀ s : State,
    exec .r8Cmdx s = .next { s with result := some (.read8 s.regs.cmdx) }
    ∧ exec .r8Arg1 s = .next { s with result := some (.read8 s.regs.arg1) }
    ∧ exec .r8Arg2 s = .next { s with result := some (.read8 s.regs.arg2) }
    ∧ exec .r8Arg3 s = .next { s with result := some (.read8 s.regs.arg3) }
    ∧ ∀ v, exec (.w8Cmdx v) s = .next { s with regs := { s.regs with cmdx := v &&& 0x3F#8 }, result := none }
      ∧ exec (.w8Arg1 v) s = .next { s with regs := { s.regs with arg1 := v }, result := none }
      ∧ exec (.w8Arg2 v) s = .next { s with regs := { s.regs with arg2 := v }, result := none }
      ∧ exec (.w8Arg3 v) s = .next { s with regs := { s.regs with arg3 := v }, result := none }

/-- `ARG4` (rules R114, R136): the trigger. With no command open and a known index it stores, latches the command and starts it;
with one open it is refused; with an unknown index it is refused. A read has no effect. -/
def Obligations.ArgumentFourTriggersTheCommand : Prop :=
  headerOf .r8Arg4 = 0x0008#16 ∧ (∀ v, headerOf (.w8Arg4 v) = 0x8008#16)
  ∧ ∀ s : State,
    exec .r8Arg4 s = .next { s with result := some (.read8 s.regs.arg4) }
    ∧ ∀ v : Byte,
      (s.hid.cmdPhase ≠ .none → exec (.w8Arg4 v) s = .refused .commandInFlight)
      ∧ (s.hid.cmdPhase = .none → respClass (s.regs.cmdx.extractLsb' 0 6) = none →
          exec (.w8Arg4 v) s = .refused .unknownIndex)
      ∧ (s.hid.cmdPhase = .none → respClass (s.regs.cmdx.extractLsb' 0 6) ≠ none →
          exec (.w8Arg4 v) s = .next { s with
            regs := { s.regs with arg4 := v }
            hid := { s.hid with
              curIndex := s.regs.cmdx.extractLsb' 0 6
              curArg := s.regs.arg1 ++ s.regs.arg2 ++ s.regs.arg3 ++ v
              cmdPhase := .sending }
            result := none })

/-- `RR0` to `RR16` (rule R115): a read gives the byte, a write does nothing; the registers change at a response only (rule
R129) and at a software reset (rule R137), which is a write of `CTRL` with bit 0 set, by HOST's request or as the next step of
an operation or a delivery. -/
def Obligations.ResponseRegistersAreReadOnly : Prop :=
  (∀ v, headerOf .r8Rr0 = 0x0009#16 ∧ headerOf (.w8Rr0 v) = 0x8009#16
    ∧ headerOf .r8Rr1 = 0x000A#16 ∧ headerOf (.w8Rr1 v) = 0x800A#16
    ∧ headerOf .r8Rr2 = 0x000B#16 ∧ headerOf (.w8Rr2 v) = 0x800B#16
    ∧ headerOf .r8Rr3 = 0x000C#16 ∧ headerOf (.w8Rr3 v) = 0x800C#16
    ∧ headerOf .r8Rr4 = 0x000D#16 ∧ headerOf (.w8Rr4 v) = 0x800D#16
    ∧ headerOf .r8Rr5 = 0x000E#16 ∧ headerOf (.w8Rr5 v) = 0x800E#16
    ∧ headerOf .r8Rr6 = 0x000F#16 ∧ headerOf (.w8Rr6 v) = 0x800F#16
    ∧ headerOf .r8Rr7 = 0x0010#16 ∧ headerOf (.w8Rr7 v) = 0x8010#16
    ∧ headerOf .r8Rr8 = 0x0011#16 ∧ headerOf (.w8Rr8 v) = 0x8011#16
    ∧ headerOf .r8Rr9 = 0x0012#16 ∧ headerOf (.w8Rr9 v) = 0x8012#16
    ∧ headerOf .r8Rr10 = 0x0013#16 ∧ headerOf (.w8Rr10 v) = 0x8013#16
    ∧ headerOf .r8Rr11 = 0x0014#16 ∧ headerOf (.w8Rr11 v) = 0x8014#16
    ∧ headerOf .r8Rr12 = 0x0015#16 ∧ headerOf (.w8Rr12 v) = 0x8015#16
    ∧ headerOf .r8Rr13 = 0x0016#16 ∧ headerOf (.w8Rr13 v) = 0x8016#16
    ∧ headerOf .r8Rr14 = 0x0017#16 ∧ headerOf (.w8Rr14 v) = 0x8017#16
    ∧ headerOf .r8Rr15 = 0x0018#16 ∧ headerOf (.w8Rr15 v) = 0x8018#16
    ∧ headerOf .r8Rr16 = 0x0019#16 ∧ headerOf (.w8Rr16 v) = 0x8019#16)
  ∧ ∀ s : State,
    (exec .r8Rr0 s = .next { s with result := some (.read8 s.regs.rr.rr0) }
    ∧ exec .r8Rr1 s = .next { s with result := some (.read8 s.regs.rr.rr1) }
    ∧ exec .r8Rr2 s = .next { s with result := some (.read8 s.regs.rr.rr2) }
    ∧ exec .r8Rr3 s = .next { s with result := some (.read8 s.regs.rr.rr3) }
    ∧ exec .r8Rr4 s = .next { s with result := some (.read8 s.regs.rr.rr4) }
    ∧ exec .r8Rr5 s = .next { s with result := some (.read8 s.regs.rr.rr5) }
    ∧ exec .r8Rr6 s = .next { s with result := some (.read8 s.regs.rr.rr6) }
    ∧ exec .r8Rr7 s = .next { s with result := some (.read8 s.regs.rr.rr7) }
    ∧ exec .r8Rr8 s = .next { s with result := some (.read8 s.regs.rr.rr8) }
    ∧ exec .r8Rr9 s = .next { s with result := some (.read8 s.regs.rr.rr9) }
    ∧ exec .r8Rr10 s = .next { s with result := some (.read8 s.regs.rr.rr10) }
    ∧ exec .r8Rr11 s = .next { s with result := some (.read8 s.regs.rr.rr11) }
    ∧ exec .r8Rr12 s = .next { s with result := some (.read8 s.regs.rr.rr12) }
    ∧ exec .r8Rr13 s = .next { s with result := some (.read8 s.regs.rr.rr13) }
    ∧ exec .r8Rr14 s = .next { s with result := some (.read8 s.regs.rr.rr14) }
    ∧ exec .r8Rr15 s = .next { s with result := some (.read8 s.regs.rr.rr15) }
    ∧ exec .r8Rr16 s = .next { s with result := some (.read8 s.regs.rr.rr16) })
    ∧ (∀ v, exec (.w8Rr0 v) s = .next { s with result := none }
    ∧ exec (.w8Rr1 v) s = .next { s with result := none }
    ∧ exec (.w8Rr2 v) s = .next { s with result := none }
    ∧ exec (.w8Rr3 v) s = .next { s with result := none }
    ∧ exec (.w8Rr4 v) s = .next { s with result := none }
    ∧ exec (.w8Rr5 v) s = .next { s with result := none }
    ∧ exec (.w8Rr6 v) s = .next { s with result := none }
    ∧ exec (.w8Rr7 v) s = .next { s with result := none }
    ∧ exec (.w8Rr8 v) s = .next { s with result := none }
    ∧ exec (.w8Rr9 v) s = .next { s with result := none }
    ∧ exec (.w8Rr10 v) s = .next { s with result := none }
    ∧ exec (.w8Rr11 v) s = .next { s with result := none }
    ∧ exec (.w8Rr12 v) s = .next { s with result := none }
    ∧ exec (.w8Rr13 v) s = .next { s with result := none }
    ∧ exec (.w8Rr14 v) s = .next { s with result := none }
    ∧ exec (.w8Rr15 v) s = .next { s with result := none }
    ∧ exec (.w8Rr16 v) s = .next { s with result := none })
    ∧ ∀ t, step s = .next t → t.regs.rr = s.regs.rr ∨ (∃ p n rest, s.agenda = .event (.respOk p n) :: rest)
      ∨ (t.regs = Regs.reset
        ∧ ((∃ src bytes v rest, s.agenda = .request src bytes :: rest ∧ decode s.cfg bytes = .instr (.w8Ctrl v)
              ∧ v.getLsbD 0 = true)
          ∨ ∃ c v rest, (s.engine = some c ∨ s.disp = some c) ∧ c.todo = .write .ctrl v :: rest
              ∧ v.getLsbD 0 = true))

/-- `WDR` (rule R116): a write pushes on the write FIFO; with the FIFO full the word is lost and `UOF` is set in both block tiers;
a read is a draw with no effect. `RDR` (rule R117): a read pops the read FIFO; of an empty one it is a draw and sets `UOF` in
both block tiers; a write does nothing. The depth is `cfg.fifo_depth_words(VR.FDEPTH)` (10_state.md rule R47). -/
def Obligations.FifoPortsPushAndPop : Prop :=
  headerOf .r32Wdr = 0x401C#16 ∧ (∀ v, headerOf (.w32Wdr v) = 0xC01C#16)
  ∧ headerOf .r32Rdr = 0x4020#16 ∧ (∀ v, headerOf (.w32Rdr v) = 0xC020#16)
  ∧ (∀ c : Cfg,
      (c.vrValue.extractLsb' 0 2 = 0#2 → fifoDepth c = c.fifoDepth0.toNat)
      ∧ (c.vrValue.extractLsb' 0 2 = 1#2 → fifoDepth c = c.fifoDepth1.toNat)
      ∧ (c.vrValue.extractLsb' 0 2 = 2#2 → fifoDepth c = c.fifoDepth2.toNat)
      ∧ (c.vrValue.extractLsb' 0 2 = 3#2 → fifoDepth c = c.fifoDepth3.toNat))
  ∧ ∀ s : State,
    exec .r32Wdr s = .next { s with draws := s.draws + 1, result := some (.read32 (Config.draw32 s.draws)) }
    ∧ (∀ v,
      (s.hid.wfifo.length < fifoDepth s.cfg →
        exec (.w32Wdr v) s = .next { s with hid := { s.hid with wfifo := s.hid.wfifo ++ [v] }, result := none })
      ∧ (fifoDepth s.cfg ≤ s.hid.wfifo.length →
        exec (.w32Wdr v) s = .next { s with
          regs := { s.regs with sbisr := s.regs.sbisr ||| 0x10#8, mbisr := s.regs.mbisr ||| 0x10#8 }
          result := none }))
    ∧ (∀ w rest, s.hid.rfifo = w :: rest →
      exec .r32Rdr s = .next { s with hid := { s.hid with rfifo := rest }, result := some (.read32 w) })
    ∧ (s.hid.rfifo = [] →
      exec .r32Rdr s = .next { s with
        regs := { s.regs with sbisr := s.regs.sbisr ||| 0x10#8, mbisr := s.regs.mbisr ||| 0x10#8 }
        draws := s.draws + 1
        result := some (.read32 (Config.draw32 s.draws)) })
    ∧ ∀ v, exec (.w32Rdr v) s = .next { s with result := none }

/-- `IMR`, `SBIMR`, `MBIMR` (rule R118): a write stores the implemented bits; a mask bit whose latch is set raises `irq` at once;
with all three masks zero `irq` is 0. -/
def Obligations.MaskRegistersStoreImplementedBits : Prop :=
  headerOf .r8Imr = 0x0024#16 ∧ headerOf .r8Sbimr = 0x0025#16 ∧ headerOf .r8Mbimr = 0x0026#16
  ∧ (∀ v, headerOf (.w8Imr v) = 0x8024#16 ∧ headerOf (.w8Sbimr v) = 0x8025#16 ∧ headerOf (.w8Mbimr v) = 0x8026#16)
  ∧ ∀ s : State,
    exec .r8Imr s = .next { s with result := some (.read8 s.regs.imr) }
    ∧ exec .r8Sbimr s = .next { s with result := some (.read8 s.regs.sbimr) }
    ∧ exec .r8Mbimr s = .next { s with result := some (.read8 s.regs.mbimr) }
    ∧ (∀ v, exec (.w8Imr v) s = .next { s with regs := { s.regs with imr := v &&& 0x0F#8 }, result := none }
      ∧ exec (.w8Sbimr v) s = .next { s with regs := { s.regs with sbimr := v &&& 0x1F#8 }, result := none }
      ∧ exec (.w8Mbimr v) s = .next { s with regs := { s.regs with mbimr := v &&& 0x1F#8 }, result := none })
    ∧ (∀ v t, s.regs.isr &&& (v &&& 0x0F#8) ≠ 0#8 → exec (.w8Imr v) s = .next t → irq t = true)
    ∧ (∀ v t, s.regs.sbisr &&& (v &&& 0x1F#8) ≠ 0#8 → exec (.w8Sbimr v) s = .next t → irq t = true)
    ∧ (∀ v t, s.regs.mbisr &&& (v &&& 0x1F#8) ≠ 0#8 → exec (.w8Mbimr v) s = .next t → irq t = true)
    ∧ (s.regs.imr = 0#8 → s.regs.sbimr = 0#8 → s.regs.mbimr = 0#8 → irq s = false)

/-- `ISR`, `SBISR`, `MBISR` (rule R119): a read gives the latches and clears none; a write does nothing. `ICR`, `SBICR`, `MBICR`
(rule R120): a write clears the latches whose bits are 1; a read gives 0x00. -/
def Obligations.LatchesReadAndClear : Prop :=
  headerOf .r8Isr = 0x0028#16 ∧ headerOf .r8Sbisr = 0x0029#16 ∧ headerOf .r8Mbisr = 0x002A#16
  ∧ headerOf .r8Icr = 0x002C#16 ∧ headerOf .r8Sbicr = 0x002D#16 ∧ headerOf .r8Mbicr = 0x002E#16
  ∧ (∀ v, headerOf (.w8Isr v) = 0x8028#16 ∧ headerOf (.w8Sbisr v) = 0x8029#16 ∧ headerOf (.w8Mbisr v) = 0x802A#16
    ∧ headerOf (.w8Icr v) = 0x802C#16 ∧ headerOf (.w8Sbicr v) = 0x802D#16 ∧ headerOf (.w8Mbicr v) = 0x802E#16)
  ∧ ∀ s : State,
    exec .r8Isr s = .next { s with result := some (.read8 s.regs.isr) }
    ∧ exec .r8Sbisr s = .next { s with result := some (.read8 s.regs.sbisr) }
    ∧ exec .r8Mbisr s = .next { s with result := some (.read8 s.regs.mbisr) }
    ∧ exec .r8Icr s = .next { s with result := some (.read8 0) }
    ∧ exec .r8Sbicr s = .next { s with result := some (.read8 0) }
    ∧ exec .r8Mbicr s = .next { s with result := some (.read8 0) }
    ∧ ∀ v, exec (.w8Isr v) s = .next { s with result := none }
      ∧ exec (.w8Sbisr v) s = .next { s with result := none }
      ∧ exec (.w8Mbisr v) s = .next { s with result := none }
      ∧ exec (.w8Icr v) s = .next { s with regs := { s.regs with isr := s.regs.isr &&& ~~~v }, result := none }
      ∧ exec (.w8Sbicr v) s = .next { s with regs := { s.regs with sbisr := s.regs.sbisr &&& ~~~v }, result := none }
      ∧ exec (.w8Mbicr v) s = .next { s with regs := { s.regs with mbisr := s.regs.mbisr &&& ~~~v }, result := none }

/-- `CTRL` (rules R121, R137): bit 0 resets the controller half and nothing else; without it `CLKOE` is bit 1 and bits 2 and 3
empty the FIFOs; a read gives `CLKOE` at bit 1 and zeros. -/
def Obligations.ControlRegisterResetsAndEnables : Prop :=
  headerOf .r8Ctrl = 0x0030#16 ∧ (∀ v, headerOf (.w8Ctrl v) = 0x8030#16)
  ∧ ∀ s : State,
    exec .r8Ctrl s = .next { s with result := some (.read8 (0#6 ++ BitVec.ofBool s.regs.clkoe ++ 0#1)) }
    ∧ ∀ v : Byte,
      (v.getLsbD 0 = true → exec (.w8Ctrl v) s = .next { s with
        regs :=
          { cmdx := 0, arg1 := 0, arg2 := 0, arg3 := 0, arg4 := 0
            rr := ⟨0, 0, 0, 0, 0, 0, 0, 0, 0, 0, 0, 0, 0, 0, 0, 0, 0⟩
            imr := 0, sbimr := 0, mbimr := 0, isr := 0, sbisr := 0, mbisr := 0
            clkoe := false, clkr := 0, datato := 0 }
        hid :=
          { cmdPhase := .none, curIndex := 0, curArg := 0, dataPhase := .none, dataTier := .sb, wordsLeft := 0
            wfifo := [], rfifo := [] }
        result := none })
      ∧ (v.getLsbD 0 = false → exec (.w8Ctrl v) s = .next { s with
        regs := { s.regs with clkoe := v.getLsbD 1 }
        hid := { s.hid with
          wfifo := if v.getLsbD 2 then [] else s.hid.wfifo
          rfifo := if v.getLsbD 3 then [] else s.hid.rfifo }
        result := none })

/-- `SBCSR`, `MBCSR` (rule R122): views of the three low latches of a block tier; a write does nothing. `CLKR`, `DATATO` and
`BLR` (rules R123 to R125): the first two store, the third is the constant 0x0200. -/
def Obligations.ViewsDividerTimeoutAndBlockLength : Prop :=
  headerOf .r8Sbcsr = 0x0034#16 ∧ headerOf .r8Mbcsr = 0x0038#16
  ∧ (∀ v, headerOf (.w8Sbcsr v) = 0x8034#16 ∧ headerOf (.w8Mbcsr v) = 0x8038#16)
  ∧ headerOf .r8Clkr = 0x0040#16 ∧ headerOf .r32Datato = 0x4048#16 ∧ headerOf .r16Blr = 0x2050#16
  ∧ (∀ v, headerOf (.w8Clkr v) = 0x8040#16) ∧ (∀ v, headerOf (.w32Datato v) = 0xC048#16)
  ∧ (∀ v, headerOf (.w16Blr v) = 0xA050#16)
  ∧ ∀ s : State,
    exec .r8Sbcsr s = .next { s with result := some (.read8 (0#5 ++ s.regs.sbisr.extractLsb' 0 3)) }
    ∧ exec .r8Mbcsr s = .next { s with result := some (.read8 (0#5 ++ s.regs.mbisr.extractLsb' 0 3)) }
    ∧ (∀ v, exec (.w8Sbcsr v) s = .next { s with result := none }
      ∧ exec (.w8Mbcsr v) s = .next { s with result := none })
    ∧ exec .r8Clkr s = .next { s with result := some (.read8 s.regs.clkr) }
    ∧ exec .r32Datato s = .next { s with result := some (.read32 s.regs.datato) }
    ∧ exec .r16Blr s = .next { s with result := some (.read16 0x0200#16) }
    ∧ (∀ v, exec (.w8Clkr v) s = .next { s with regs := { s.regs with clkr := v }, result := none })
    ∧ (∀ v, exec (.w32Datato v) s = .next { s with regs := { s.regs with datato := v }, result := none })
    ∧ (∀ v, exec (.w16Blr v) s = .next { s with result := none })

/-- Reserved offsets (rule R126): at the default offsets of 10_state.md rule R51 those of rule R44, written out here. A 1-byte read
gives 0x00 and a 1-byte write does nothing. Every other access that reaches no register is refused (20_memory.md rules R61,
R63): a byte inside `WDR`, `RDR`, `DATATO` or `BLR` or outside the window, a half-word but of `BLR`, a word but of `WDR`, `RDR`
or `DATATO`. The packet's bytes are log entry 13's and its turn on the agenda log entry 3's (DESIGN CHOICE); that a reserved
read carries a zero data word and a reserved write three zero bytes is log entry 15 (DEDUCED). -/
def Obligations.ReservedOffsetsReadZero : Prop :=
  ∀ (s : State) (src : Requester) (rest : List Turn) (write : Bool) (size : Size) (off : BitVec 7) (data : Word),
    s.faulted = none → s.engine = none → s.disp = none → s.cfg.off = Config.offsetTable →
    s.agenda = .request src (bytesOfHalf s.cfg.littleEndian (BitVec.ofBool write ++ size.code ++ 0#6 ++ off)
      ++ bytesOfWord s.cfg.littleEndian data) :: rest →
    (size = .byte →
      off.toNat ∈ [0x1A, 0x1B, 0x27, 0x2B, 0x2F, 0x31, 0x32, 0x33, 0x35, 0x36, 0x37, 0x39, 0x3A, 0x3B, 0x3C, 0x3D, 0x3E, 0x3F,
        0x41, 0x42, 0x43, 0x44, 0x45, 0x46, 0x47, 0x4C, 0x4D, 0x4E, 0x4F] →
      (write = false → data = 0#32 → step s = .next { s with agenda := rest, result := some (.read8 0) })
      ∧ (write = true → data.extractLsb' 8 24 = 0#24 → step s = .next { s with agenda := rest, result := none }))
    ∧ (size = .byte →
        (0x1C ≤ off.toNat ∧ off.toNat ≤ 0x23) ∨ (0x48 ≤ off.toNat ∧ off.toNat ≤ 0x4B) ∨ 0x50 ≤ off.toNat →
        step s = .refused .badTransaction)
    ∧ (size = .half → off.toNat ≠ 0x50 → step s = .refused .badTransaction)
    ∧ (size = .word → off.toNat ≠ 0x1C → off.toNat ≠ 0x20 → off.toNat ≠ 0x48 → step s = .refused .badTransaction)

/-- The interrupt line (rule R127): 1 exactly when some latch is set and unmasked; the platform may deliver when it is 1, and
not when it is 0. That deliveries stand on an agenda is log entry 3, and that one standing there with `irq` 0 is taken off it
and passed over log entry 17 (DESIGN CHOICE). -/
def Obligations.InterruptLineIsUnmaskedLatches : Prop :=
  (∀ s : State, irq s = true ↔
    s.regs.isr &&& s.regs.imr ≠ 0#8 ∨ s.regs.sbisr &&& s.regs.sbimr ≠ 0#8 ∨ s.regs.mbisr &&& s.regs.mbimr ≠ 0#8)
  ∧ ∀ (s : State) (iv : Bool) (rest : List Turn), s.faulted = none → s.disp = none → s.agenda = .deliver iv :: rest →
    (irq s = true → step s = exec (.isr iv) { s with agenda := rest })
    ∧ (irq s = false → step s = .next { s with agenda := rest })

/-! ### CONTROLLER -/

/-- `! CmdSent`, `! RespOk`, `! RespFail` (rules R128, R129, R130): preconditions and effects. A block is `cfg.BLOCK_WORDS` words.
The response classes of the fourteen indices are written out in `CommandRowsWriteFiveRegisters`. A response has the length and
the layout of its class (30_encoding.md rule R88), written out first; that one with another layout is no `! RespOk`, and that a
CRC7 is not looked at, is log entry 30 (DEDUCED). -/
def Obligations.CommandEventsFollowTheContract : Prop :=
  (∀ index : BitVec 6,
    (∀ v : BitVec 48, responseFits index (.short v) = true ↔
      v.getLsbD 47 = false ∧ v.getLsbD 46 = false ∧ v.getLsbD 0 = true
      ∧ (((respClass index = some .r1 ∨ respClass index = some .r1b) ∧ v.extractLsb' 40 6 = index)
        ∨ (respClass index = some .r3 ∧ v.extractLsb' 40 6 = 0x3F#6 ∧ v.extractLsb' 1 7 = 0x7F#7)))
    ∧ (∀ v : BitVec 136, responseFits index (.long v) = true ↔
      v.getLsbD 135 = false ∧ v.getLsbD 134 = false ∧ v.getLsbD 0 = true
      ∧ respClass index = some .r2 ∧ v.extractLsb' 128 6 = 0x3F#6))
  ∧ ∀ s : State,
    (s.hid.cmdPhase = .sending →
      controllerStep .cmdSent s = some { s with
        regs := { s.regs with isr := s.regs.isr ||| 0x01#8 }
        hid := { s.hid with
          cmdPhase := if respClass s.hid.curIndex = some .none then .none else .awaitingResponse } })
    ∧ (s.hid.cmdPhase ≠ .sending → controllerStep .cmdSent s = none)
    ∧ (∀ silent, s.hid.cmdPhase = .awaitingResponse →
      controllerStep (.respFail silent) s = some { s with
        regs := { s.regs with isr := s.regs.isr ||| (if silent then 0x0C#8 else 0x04#8) }
        hid := { s.hid with cmdPhase := .none } })
    ∧ (∀ silent, s.hid.cmdPhase ≠ .awaitingResponse → controllerStep (.respFail silent) s = none)
    ∧ (∀ p n, s.hid.cmdPhase ≠ .awaitingResponse → controllerStep (.respOk p n) s = none)
    ∧ (∀ p n, responseFits s.hid.curIndex p = false → controllerStep (.respOk p n) s = none)
    ∧ (∀ v n, respClass s.hid.curIndex ≠ some .r2 → controllerStep (.respOk (.long v) n) s = none)
    ∧ (∀ v n, respClass s.hid.curIndex = some .r2 → controllerStep (.respOk (.short v) n) s = none)
    ∧ (∀ p, s.hid.curIndex = 18#6 ∨ s.hid.curIndex = 25#6 → controllerStep (.respOk p 0) s = none)
    ∧ (∀ (p : Resp) (n : Nat), s.hid.cmdPhase = .awaitingResponse →
      responseFits s.hid.curIndex p = true →
      (s.hid.curIndex = 18#6 ∨ s.hid.curIndex = 25#6 → 1 ≤ n) →
      ∃ (rr : RespRegs) (h : Hidden), controllerStep (.respOk p n) s = some { s with
          regs := { s.regs with rr := rr, isr := s.regs.isr ||| 0x02#8 }
          hid := { s.hid with
            cmdPhase := .none, dataPhase := h.dataPhase, dataTier := h.dataTier, wordsLeft := h.wordsLeft } }
        ∧ (match p with
          | .short v => rr = { s.regs.rr with
              rr0 := v.extractLsb' 40 8, rr1 := v.extractLsb' 32 8, rr2 := v.extractLsb' 24 8
              rr3 := v.extractLsb' 16 8, rr4 := v.extractLsb' 8 8, rr5 := v.extractLsb' 0 8 }
          | .long v => ∀ k : Fin 17, rr.get k = v.extractLsb' (128 - 8 * k.val) 8)
        ∧ (s.hid.curIndex = 24#6 → (h.dataPhase, h.dataTier, h.wordsLeft) = (.write, .sb, s.cfg.blockWords))
        ∧ (s.hid.curIndex = 25#6 → (h.dataPhase, h.dataTier, h.wordsLeft) = (.write, .mb, s.cfg.blockWords * n))
        ∧ (s.hid.curIndex = 17#6 ∨ s.hid.curIndex = 8#6 →
            (h.dataPhase, h.dataTier, h.wordsLeft) = (.read, .sb, s.cfg.blockWords))
        ∧ (s.hid.curIndex = 18#6 → (h.dataPhase, h.dataTier, h.wordsLeft) = (.read, .mb, s.cfg.blockWords * n))
        ∧ (s.hid.curIndex = 12#6 → (h.dataPhase, h.dataTier, h.wordsLeft) = (.none, s.hid.dataTier, 0))
        ∧ (s.hid.curIndex ≠ 24#6 → s.hid.curIndex ≠ 25#6 → s.hid.curIndex ≠ 17#6 → s.hid.curIndex ≠ 8#6 →
            s.hid.curIndex ≠ 18#6 → s.hid.curIndex ≠ 12#6 →
            (h.dataPhase, h.dataTier, h.wordsLeft) = (s.hid.dataPhase, s.hid.dataTier, s.hid.wordsLeft)))

/-- `! WordOut`, `! WordIn`, `! DataDone`, `! FifoTimeout` (rules R131 to R134): preconditions and effects. The words handed to
DEVICE are the model's record of rule R131 (log entry 18). -/
def Obligations.DataEventsFollowTheContract : Prop :=
  ∀ s : State,
    (∀ w rest, s.hid.dataPhase = .write → 0 < s.hid.wordsLeft → s.hid.wfifo = w :: rest →
      controllerStep .wordOut s = some { s with
        hid := { s.hid with wfifo := rest, wordsLeft := s.hid.wordsLeft - 1 }
        deviceWords := s.deviceWords ++ [w] })
    ∧ (s.hid.dataPhase ≠ .write ∨ s.hid.wordsLeft = 0 ∨ s.hid.wfifo = [] → controllerStep .wordOut s = none)
    ∧ (∀ w, s.hid.dataPhase = .read → 0 < s.hid.wordsLeft → s.hid.rfifo.length < fifoDepth s.cfg →
      controllerStep (.wordIn w) s = some { s with
        hid := { s.hid with rfifo := s.hid.rfifo ++ [w], wordsLeft := s.hid.wordsLeft - 1 } })
    ∧ (∀ w, s.hid.dataPhase ≠ .read ∨ s.hid.wordsLeft = 0 ∨ fifoDepth s.cfg ≤ s.hid.rfifo.length →
      controllerStep (.wordIn w) s = none)
    ∧ (∀ crc ctrl : Bool, s.hid.dataPhase ≠ .none → (s.hid.wordsLeft = 0 ∨ crc = true ∨ ctrl = true) →
      ∃ bits : Byte, bits = 0x01#8 ||| (if crc then 0x02#8 else 0#8) ||| (if ctrl then 0x04#8 else 0#8)
        ∧ (s.hid.dataTier = .sb → controllerStep (.dataDone crc ctrl) s = some { s with
            regs := { s.regs with sbisr := s.regs.sbisr ||| bits }
            hid := { s.hid with dataPhase := .none, wordsLeft := 0 } })
        ∧ (s.hid.dataTier = .mb → controllerStep (.dataDone crc ctrl) s = some { s with
            regs := { s.regs with mbisr := s.regs.mbisr ||| bits }
            hid := { s.hid with dataPhase := .none, wordsLeft := 0 } }))
    ∧ (∀ crc ctrl : Bool, s.hid.dataPhase = .none ∨ (s.hid.wordsLeft ≠ 0 ∧ crc = false ∧ ctrl = false) →
      controllerStep (.dataDone crc ctrl) s = none)
    ∧ ((s.hid.dataPhase = .write ∧ 0 < s.hid.wordsLeft ∧ s.hid.wfifo = [])
        ∨ (s.hid.dataPhase = .read ∧ 0 < s.hid.wordsLeft ∧ fifoDepth s.cfg ≤ s.hid.rfifo.length) →
      (s.hid.dataTier = .sb → controllerStep .fifoTimeout s = some { s with
          regs := { s.regs with sbisr := s.regs.sbisr ||| 0x08#8 }, hid := { s.hid with dataPhase := .none } })
      ∧ (s.hid.dataTier = .mb → controllerStep .fifoTimeout s = some { s with
          regs := { s.regs with mbisr := s.regs.mbisr ||| 0x08#8 }, hid := { s.hid with dataPhase := .none } }))
    ∧ (¬ (s.hid.dataPhase = .write ∧ 0 < s.hid.wordsLeft ∧ s.hid.wfifo = []) →
        ¬ (s.hid.dataPhase = .read ∧ 0 < s.hid.wordsLeft ∧ fifoDepth s.cfg ≤ s.hid.rfifo.length) →
        controllerStep .fifoTimeout s = none)

/-! ### Commands -/

/-- The fourteen `CMD` rows (41_command_interface.md rules R151 to R164): each sends its own index with its whole argument by five
writes, and is refused at the trigger while a command is open; and the response class of each index, no other index having
one (rule R150). That the rows do so for every argument, also one outside the row's pattern, is log entry 14, and that HOST's
command is five steps in the caller's context log entry 25 (DEDUCED). -/
def Obligations.CommandRowsWriteFiveRegisters : Prop :=
  ∀ arg : Word,
    SendsCommand (.goIdleState arg) 0#6 arg ∧ SendsCommand (.sendOpCond arg) 1#6 arg
    ∧ SendsCommand (.allSendCid arg) 2#6 arg ∧ SendsCommand (.setRelativeAddr arg) 3#6 arg
    ∧ SendsCommand (.switch arg) 6#6 arg ∧ SendsCommand (.selectCard arg) 7#6 arg
    ∧ SendsCommand (.sendExtCsd arg) 8#6 arg ∧ SendsCommand (.stopTransmission arg) 12#6 arg
    ∧ SendsCommand (.sendStatus arg) 13#6 arg ∧ SendsCommand (.readSingleBlock arg) 17#6 arg
    ∧ SendsCommand (.readMultipleBlock arg) 18#6 arg ∧ SendsCommand (.setBlockCount arg) 23#6 arg
    ∧ SendsCommand (.writeSingleBlock arg) 24#6 arg ∧ SendsCommand (.writeMultipleBlock arg) 25#6 arg
    ∧ (respClass 0#6 = some .none ∧ respClass 1#6 = some .r3 ∧ respClass 2#6 = some .r2 ∧ respClass 3#6 = some .r1
      ∧ respClass 6#6 = some .r1b ∧ respClass 7#6 = some .r1 ∧ respClass 8#6 = some .r1 ∧ respClass 12#6 = some .r1b
      ∧ respClass 13#6 = some .r1 ∧ respClass 17#6 = some .r1 ∧ respClass 18#6 = some .r1 ∧ respClass 23#6 = some .r1
      ∧ respClass 24#6 = some .r1 ∧ respClass 25#6 = some .r1)
    ∧ ∀ index : BitVec 6, index.toNat ∉ [0, 1, 2, 3, 6, 7, 8, 12, 13, 17, 18, 23, 24, 25] → respClass index = none

/-- `send_command` and `issue_command` up to their first wait (rules R165 to R167): `send_command` clears nothing and makes the
five writes, then ends or, with policy `POLL`, waits for `SENT`: a stale `SENT` ends the wait at once, and while `SENT` is clear
it goes on; `issue_command` clears all latches first; an undefined index is refused. -/
def Obligations.InternalOperationsSendTheCommand : Prop :=
  ∀ (s : State) (iv : Bool) (arg : Word) (index : BitVec 6),
    (respClass index = none →
      (∀ policy, exec (.sendCommand iv arg index policy) s = .refused .unknownIndex)
      ∧ exec (.issueCommand iv arg index) s = .refused .unknownIndex)
    ∧ (respClass index ≠ none → Quiet s → s.hid.cmdPhase = .none →
      (∀ policy, policy ≠ .poll → ∃ t, exec (.sendCommand iv arg index policy) s = .next t
        ∧ run 5 t = .next { s.commandSent index arg with result := none })
      ∧ (∃ t, exec (.sendCommand iv arg index .poll) s = .next t
        ∧ run 5 t = .next { s.commandSent index arg with
            engine := some ⟨[.pollSent], .ret none, Locals.start⟩, result := none }
        ∧ (s.regs.isr.getLsbD 0 = true → run 6 t = .next { s.commandSent index arg with result := none })
        ∧ (s.regs.isr.getLsbD 0 = false → ∀ n, ∃ c, c.todo = [.pollSent]
            ∧ run (5 + n) t = .next { s.commandSent index arg with engine := some c, result := none }))
      ∧ ∃ t c, exec (.issueCommand iv arg index) s = .next t
        ∧ run 8 t = .next { s.latchesCleared.commandSent index arg with engine := some c, result := none }
        ∧ c.todo = if respClass index = some .none then [.pollSent] else [.pollSent, .pollResponse])

/-- `issue_command` from the request to its result (rules R167 to R169), with the answer of CONTROLLER between its waits: a class
`none` command succeeds once sent; an R1 or R1b answer gives the parse of its card status; an R2 or R3 answer succeeds; a failed
answer gives `Fail`. An answer is a response of the layout of rule R88, written out in `CommandEventsFollowTheContract`; the class
of each index is written out in `CommandRowsWriteFiveRegisters`. The agenda schedules ENGINE's steps and the two events (log entry
3). -/
def Obligations.IssueCommandReturnsTheParsedStatus : Prop :=
  ∀ (s : State) (iv : Bool) (arg : Word) (index : BitVec 6), Quiet s → s.hid.cmdPhase = .none →
    respClass index ≠ none →
    ∃ t, exec (.issueCommand iv arg index) s = .next t
      ∧ (respClass index = some .none →
        ∃ u, run 10 { t with agenda := List.replicate 8 .engine ++ [.event .cmdSent, .engine] } = .next u
          ∧ u.engine = none ∧ u.result = some (.cmdResult .success) ∧ u.hid.cmdPhase = .none ∧ u.regs.isr = 0x01#8)
      ∧ (respClass index ≠ some .none → ∀ silent : Bool,
        ∃ u, run 12 { t with agenda := List.replicate 8 .engine
              ++ [.event .cmdSent, .event (.respFail silent), .engine, .engine] } = .next u
          ∧ u.engine = none ∧ u.result = some (.cmdResult .fail) ∧ u.hid.cmdPhase = .none
          ∧ u.regs.isr = (if silent then 0x0D#8 else 0x05#8))
      ∧ (respClass index = some .r1 ∨ respClass index = some .r1b → ∀ (p : BitVec 48) (n : Nat), 1 ≤ n →
        responseFits index (.short p) = true →
        ∃ u, run 16 { t with agenda := List.replicate 8 .engine
              ++ [.event .cmdSent, .event (.respOk (.short p) n)] ++ List.replicate 6 .engine } = .next u
          ∧ u.engine = none ∧ u.result = some (.cmdResult (parseR1 s.cfg (p.extractLsb' 8 32)))
          ∧ u.hid.cmdPhase = .none ∧ u.regs.isr = 0x03#8)
      ∧ (respClass index = some .r2 ∨ respClass index = some .r3 → ∀ (p : Resp) (n : Nat),
        responseFits index p = true →
        ∃ u, run 12 { t with agenda := List.replicate 8 .engine
              ++ [.event .cmdSent, .event (.respOk p n), .engine, .engine] } = .next u
          ∧ u.engine = none ∧ u.result = some (.cmdResult .success) ∧ u.hid.cmdPhase = .none ∧ u.regs.isr = 0x03#8)

/-- `parse_r1` (rule R169): an error bit fails whatever the ready bit says; else the ready bit decides. `ocr_ready` and `ocr_mode`
(rule R171) are a bit and a field of the OCR, `cur_state` (rule R172) a field of the card status, each bit of the field the bit
that far above its low end. With the examples the three rules give. -/
def Obligations.ParseTestsErrorBeforeReady : Prop :=
  (∀ (c : Cfg) (cs : Word),
    (parseR1 c cs = .fail ↔ cs &&& c.r1ErrorMask ≠ 0#32)
    ∧ (parseR1 c cs = .busy ↔ cs &&& c.r1ErrorMask = 0#32 ∧ cs.getLsbD c.r1ReadyBit = false)
    ∧ (parseR1 c cs = .success ↔ cs &&& c.r1ErrorMask = 0#32 ∧ cs.getLsbD c.r1ReadyBit = true))
  ∧ (∀ (c : Cfg) (o : Word) (k : Nat), ocrReady c o = o.getLsbD c.ocrReadyBit
    ∧ (c.ocrModeLo ≤ c.ocrModeHi → c.ocrModeHi < 32 →
      (ocrMode c o).getLsbD k = (decide (k ≤ c.ocrModeHi - c.ocrModeLo) && o.getLsbD (c.ocrModeLo + k))))
  ∧ (∀ (c : Cfg) (cs : Word) (k : Nat), c.r1StateLo ≤ c.r1StateHi → c.r1StateHi < 32 →
      (curState c cs).getLsbD k = (decide (k ≤ c.r1StateHi - c.r1StateLo) && cs.getLsbD (c.r1StateLo + k)))
  ∧ (∀ c : Cfg, c.r1ErrorMask = 0xFDF98080#32 → c.r1ReadyBit = 8 →
    parseR1 c 0x00000900 = .success ∧ parseR1 c 0x00000800 = .busy ∧ parseR1 c 0x00000E00 = .busy
    ∧ parseR1 c 0x80000900 = .fail ∧ parseR1 c 0x00000080 = .fail ∧ parseR1 c 0x00000100 = .success
    ∧ parseR1 c 0x02000900 = .success)
  ∧ (∀ c : Cfg, c.ocrReadyBit = 31 → c.ocrModeHi = 30 → c.ocrModeLo = 29 →
    ocrReady c 0x00FF8080 = false ∧ ocrReady c 0xC0FF8080 = true ∧ ocrMode c 0xC0FF8080 = 2#32
    ∧ ocrReady c 0x80FF8080 = true ∧ ocrMode c 0x80FF8080 = 0#32)
  ∧ (∀ c : Cfg, c.r1StateHi = 12 → c.r1StateLo = 9 →
    curState c 0x00000900 = 4#32 ∧ curState c 0x00000E00 = 7#32 ∧ curState c 0x00000100 = 0#32)

/-- `read_r2` (rule R170): sixteen steps, `RR1` to `RR16`, and the 128-bit value `RR1 ‖ … ‖ RR16`, bit 127 the most significant bit
of `RR1`. With nothing else in progress and no CONTROLLER event between, the request and its sixteen steps hand that value over and
change nothing else; and each step reads its register as it stands at that step. That HOST performs it as a turn of the agenda,
which waits as a request does, is log entry 28 (DESIGN CHOICE). -/
def Obligations.ReadR2GivesThePayload : Prop :=
  (∀ (s : State) (rest : List Turn), s.faulted = none → s.agenda = .readR2 :: rest →
    (s.disp ≠ none → step s = dispatcherStep s)
    ∧ (s.disp = none → s.engine ≠ none → step s = engineStep s)
    ∧ (s.disp = none → s.engine = none → ∃ c, step s = .next { s with agenda := rest, engine := some c, result := none }
      ∧ c.todo = [.r2Byte 1, .r2Byte 2, .r2Byte 3, .r2Byte 4, .r2Byte 5, .r2Byte 6, .r2Byte 7, .r2Byte 8, .r2Byte 9, .r2Byte 10,
          .r2Byte 11, .r2Byte 12, .r2Byte 13, .r2Byte 14, .r2Byte 15, .r2Byte 16]
      ∧ c.point = .r2Read))
  ∧ (∀ (s : State) (n : Fin 17) (m : Micro) (rest : List Micro) (l : Locals),
      s.engine = some ⟨.r2Byte n :: m :: rest, .r2Read, l⟩ →
      engineStep s = .next { s with
        engine := some ⟨m :: rest, .r2Read, { l with r2 := l.r2.extractLsb' 0 120 ++ s.regs.rr.get n }⟩ })
  ∧ (∀ s : State, s.faulted = none → s.disp = none → s.engine = none → s.agenda = [.readR2] →
      run 17 s = .next { s with agenda := [], result := some (.r2 (
        s.regs.rr.rr1 ++ s.regs.rr.rr2 ++ s.regs.rr.rr3 ++ s.regs.rr.rr4 ++ s.regs.rr.rr5 ++ s.regs.rr.rr6 ++ s.regs.rr.rr7
        ++ s.regs.rr.rr8 ++ s.regs.rr.rr9 ++ s.regs.rr.rr10 ++ s.regs.rr.rr11 ++ s.regs.rr.rr12 ++ s.regs.rr.rr13
        ++ s.regs.rr.rr14 ++ s.regs.rr.rr15 ++ s.regs.rr.rr16)) })

/-! ### Initialization -/

/-- `init` up to the version test (42_initialization.md rules R180 to R182): step 1's writes, the version registers read, and then,
with a revision of `cfg.SUPPORTED_REV` and a data-width code that is a width, the geometry captured and GO_IDLE_STATE begun, or
`UnsupportedHwRevision` handed back after `exit`. A second `init` after a successful one is refused. That the Params record is
replaced in the step of the request is log entry 21 (DEDUCED); the counts of steps rest on log entry 31 (DESIGN CHOICE): each of
the two lines that read a version register into `inst` is one step. -/
def Obligations.InitProgramsTheControllerAndReadsTheVersion : Prop :=
  ∀ (s : State) (initClkDiv clkDiv : Byte),
    (s.initialised = true → exec (.init true initClkDiv clkDiv) s = .refused .alreadyInitialised)
    ∧ (s.initialised = false → Quiet s →
      ∃ t, exec (.init true initClkDiv clkDiv) s = .next t ∧ t.par = ⟨initClkDiv, clkDiv⟩
        ∧ (s.cfg.vrValue.extractLsb' 4 4 ∈ s.cfg.supportedRev ∧ s.cfg.vrValue.extractLsb' 2 2 ≠ 3#2 →
          ∃ u c depth width, run 10 t = .next u ∧ u.engine = some c
            ∧ u = { s with
              par := ⟨initClkDiv, clkDiv⟩
              inst := { s.inst with
                base := s.cfg.base, clkDiv := initClkDiv, hwMajor := s.cfg.mjvrValue, hwMinor := s.cfg.mivrValue
                fifoDepthWords := depth
                busWidth := width }
              regs := { s.regs with datato := s.cfg.dataTimeout, clkr := initClkDiv, clkoe := true }
              engine := some c
              result := none }
            ∧ (s.cfg.vrValue.extractLsb' 0 2 = 0#2 → depth = s.cfg.fifoDepth0)
            ∧ (s.cfg.vrValue.extractLsb' 0 2 = 1#2 → depth = s.cfg.fifoDepth1)
            ∧ (s.cfg.vrValue.extractLsb' 0 2 = 2#2 → depth = s.cfg.fifoDepth2)
            ∧ (s.cfg.vrValue.extractLsb' 0 2 = 3#2 → depth = s.cfg.fifoDepth3)
            ∧ (s.cfg.vrValue.extractLsb' 2 2 = 0#2 → width = 1#4)
            ∧ (s.cfg.vrValue.extractLsb' 2 2 = 1#2 → width = 4#4)
            ∧ (s.cfg.vrValue.extractLsb' 2 2 = 2#2 → width = 8#4)
            ∧ c.todo = clearAll ++ fiveWrites 0#6 0#32 ++ [.pollSent]
            ∧ c.point = .result .initGoIdle .success)
        ∧ (¬ (s.cfg.vrValue.extractLsb' 4 4 ∈ s.cfg.supportedRev ∧ s.cfg.vrValue.extractLsb' 2 2 ≠ 3#2) →
          run 19 t = .next { s.latchesCleared with
            par := ⟨initClkDiv, clkDiv⟩
            inst := { s.inst with
              base := s.cfg.base, clkDiv := initClkDiv, hwMajor := s.cfg.mjvrValue, hwMinor := s.cfg.mivrValue }
            regs := { s.latchesCleared.regs with datato := s.cfg.dataTimeout, clkr := initClkDiv, clkoe := true }
            st := ⟨.idle, 0, 0, 0, 2 ^ s.cfg.tickBits - 1, .unsupportedHwRevision, .unsupportedHwRevision⟩
            initExited := true
            result := some (.errCode .unsupportedHwRevision) }))

/-- The steps of `init` after the version test, each at the step in which a result becomes known (`State.CommandEnds`), or the last
byte of the OCR is read, or the last byte of the Extended CSD is captured: where it goes on, and with which code it exits.
GO_IDLE_STATE, the SEND_OP_COND loop and the access mode (42_initialization.md rules R183, R184): `ResetErr`, `OpCondErr`.
ALL_SEND_CID, SET_RELATIVE_ADDR, SELECT_CARD (rules R185, R186): `CidRespErr`, `RcaError`, where `Busy` fails too. The bus
switch, left out by a controller 1 bit wide (rule R187): `DwidthErr`. The speed switch and the divider (rule R188), and the
Extended CSD with `HS_TIMING` 0 (rule R189): `ClkDivErr`. That a byte of the Extended CSD past the words read is 0, where a
configuration's offset names one, is the model's choice (log entry 27, DESIGN CHOICE); with a whole block read no well-formed
configuration does. The rounds of `wait_ready` and the block read are in `BlockingTransfersEndAsTheErrorTableSays`. -/
def Obligations.InitFollowsItsStepsOrExitsWithTheirCode : Prop :=
  ∀ s : State,
    (s.CommandEnds .initGoIdle .success → s.Issues 1#6 s.cfg.ocrArg .initOpCond (step s))
    ∧ (∀ r, r ≠ .success → s.CommandEnds .initGoIdle r → s.Exits .resetErr (step s))
    ∧ (s.CommandEnds .initOpCond .success → ∃ l, step s = .next { s with engine := some ⟨readPayload32, .initOcr, l⟩ })
    ∧ (∀ r, r ≠ .success → s.CommandEnds .initOpCond r → s.Exits .opCondErr (step s))
    ∧ (∀ (l : Locals) (o : Word), s.faulted = none → s.disp = none → s.agenda = [] →
        s.engine = some ⟨[.payloadByte 4], .initOcr, l⟩ → o = l.payload.extractLsb' 0 24 ++ s.regs.rr.rr4 →
        (o.getLsbD s.cfg.ocrReadyBit = false → s.Issues 1#6 s.cfg.ocrArg .initOpCond (step s))
        ∧ (o.getLsbD s.cfg.ocrReadyBit = true → ocrMode s.cfg o ≠ s.cfg.ocrModeSector → s.Exits .opCondErr (step s))
        ∧ (o.getLsbD s.cfg.ocrReadyBit = true → ocrMode s.cfg o = s.cfg.ocrModeSector → s.Issues 2#6 0#32 .initCid (step s)))
    ∧ (s.CommandEnds .initCid .success → s.Issues 3#6 (s.cfg.rca ++ 0#16) .initRca (step s))
    ∧ (∀ r, r ≠ .success → s.CommandEnds .initCid r → s.Exits .cidRespErr (step s))
    ∧ (s.CommandEnds .initRca .success → s.Issues 7#6 (s.cfg.rca ++ 0#16) .initSelect (step s))
    ∧ (∀ r, r ≠ .success → s.CommandEnds .initRca r → s.Exits .rcaError (step s))
    ∧ (∀ r, r ≠ .success → s.CommandEnds .initSelect r → s.Exits .rcaError (step s))
    ∧ (s.CommandEnds .initSelect .success →
        (s.inst.busWidth = 4#4 → s.Issues 6#6 (0x03#8 ++ s.cfg.extCsdBusWidth ++ 1#8 ++ 0#8) .initBusSwitch (step s))
        ∧ (s.inst.busWidth = 8#4 → s.Issues 6#6 (0x03#8 ++ s.cfg.extCsdBusWidth ++ 2#8 ++ 0#8) .initBusSwitch (step s))
        ∧ (s.inst.busWidth = 1#4 → s.Issues 6#6 (0x03#8 ++ s.cfg.extCsdHsTiming ++ 1#8 ++ 0#8) .initSpeedSwitch (step s)))
    ∧ (s.CommandEnds .initBusSwitch .fail → s.Exits .dwidthErr (step s))
    ∧ (∀ r, r ≠ .fail → s.CommandEnds .initBusSwitch r → s.Issues 13#6 (s.cfg.rca ++ 0#16) (.ready .initBus) (step s))
    ∧ (s.CommandEnds (.ready .initBus) .fail → s.Exits .dwidthErr (step s))
    ∧ (s.CommandEnds (.ready .initBus) .success →
        s.Issues 6#6 (0x03#8 ++ s.cfg.extCsdHsTiming ++ 1#8 ++ 0#8) .initSpeedSwitch (step s))
    ∧ (s.CommandEnds .initSpeedSwitch .fail → s.Exits .clkDivErr (step s))
    ∧ (∀ r, r ≠ .fail → s.CommandEnds .initSpeedSwitch r → s.Issues 13#6 (s.cfg.rca ++ 0#16) (.ready .initSpeed) (step s))
    ∧ (s.CommandEnds (.ready .initSpeed) .fail → s.Exits .clkDivErr (step s))
    ∧ (s.CommandEnds (.ready .initSpeed) .success → ∃ l, step s = .next { s with
        engine := some ⟨[.write .clkr (s.par.clkDiv.setWidth 32), .setInst (.clkDiv s.par.clkDiv), .write .ctrl 0x0A#32] ++ clearAll
            ++ fiveWrites 13#6 (s.cfg.rca ++ 0#16) ++ [.pollSent, .pollResponse],
          .responded 13#6 (.ready (.readBefore s.cfg.extCsdSentinel .scratch)), l⟩ })
    ∧ (∀ c, s.engine = some c → s.CommandEnds (.ready (.readAfter .scratch)) .success →
        ∀ csd : Nat → Byte,
          (s.cfg.littleEndian = true →
            ∀ k, csd k = (c.locals.scratch.getD (k / 4) 0#32).extractLsb' (8 * (k % 4)) 8) →
          (s.cfg.littleEndian = false →
            ∀ k, csd k = (c.locals.scratch.getD (k / 4) 0#32).extractLsb' (24 - 8 * (k % 4)) 8) →
          ∃ l, step s = .next { s with
            engine := some ⟨[.setInst (.sectorCount (csd (s.cfg.extCsdSecCount + 3) ++ csd (s.cfg.extCsdSecCount + 2)
                  ++ csd (s.cfg.extCsdSecCount + 1) ++ csd s.cfg.extCsdSecCount)),
                .setInst (.cardType (csd s.cfg.extCsdCardType)),
                .setInst (.hsTiming (csd s.cfg.extCsdHsTiming.toNat))],
              .initCaptured, l⟩ })
    ∧ (∀ (l : Locals) (v : Byte), s.faulted = none → s.disp = none → s.agenda = [] →
        s.engine = some ⟨[.setInst (.hsTiming v)], .initCaptured, l⟩ →
        ∀ u : State, u = { s with inst := { s.inst with hsTiming := v } } →
          (v = 0#8 → u.Exits .clkDivErr (step s)) ∧ (v ≠ 0#8 → u.Exits .initSuccess (step s)))

/-- `exit(result)` (rule R190), eleven steps: the latches cleared, the Status record written, `initialised` true exactly on
success; and `status` then returns the same code for every `now` (44_nonblocking_transfers.md rule R221), the source's first
testable property. -/
def Obligations.InitExitThenStatusReturnsTheCode : Prop :=
  ∀ (s : State) (l : Locals) (result : ErrCode),
    s.faulted = none → s.disp = none → s.agenda = [] → s.engine = some (Ctx.initExit s.cfg result l) →
    ∃ u, run 11 s = .next u
      ∧ u = { s.latchesCleared with
          st := ⟨.idle, 0, 0, 0, 2 ^ s.cfg.tickBits - 1, result, result⟩
          initialised := (result == .initSuccess)
          initExited := true
          engine := none
          result := some (.errCode result) }
      ∧ ∀ now, exec (.status true now) u = .next u

/-! ### Blocking transfers -/

/-- The preconditions of `sbw` and `sbr` (43_blocking_transfers.md rule R202), tested in this order, nothing touched. A buffer
fits when it is 4-byte aligned, `cfg.SECTOR_BYTES` bytes of caller memory stand there in one extent, and none of them is in the
register window (log entry 8, DESIGN CHOICE). -/
def Obligations.BlockingTransfersTestTheirPreconditions : Prop :=
  ∀ (s : State) (buf sector : Word) (i : Bool → Instr),
    (i = (fun iv => .sbw iv buf sector) ∨ i = (fun iv => .sbr iv sector buf)) →
    (bufferFits s buf = true ↔ buf.toNat % 4 = 0
        ∧ (∃ e ∈ s.callerMem, e.1 ≤ buf.toNat ∧ buf.toNat + s.cfg.sectorBytes ≤ e.1 + e.2)
        ∧ (buf.toNat + s.cfg.sectorBytes ≤ s.cfg.base.toNat ∨ s.cfg.base.toNat + 0x52 ≤ buf.toNat))
    ∧ exec (i false) s = .next { s with faulted := some .nullInstance }
    ∧ (s.initialised = false → exec (i true) s = .refused .notInitialised)
    ∧ (s.initialised = true → s.st.errState = .processing → exec (i true) s = .refused .transferInFlight)
    ∧ (s.initialised = true → s.st.errState ≠ .processing → buf.toNat % 4 ≠ 0 → exec (i true) s = .refused .badBuffer)
    ∧ (s.initialised = true → s.st.errState ≠ .processing → bufferFits s buf = false →
        exec (i true) s = .refused .badBuffer)
    ∧ (s.initialised = true → s.st.errState ≠ .processing → bufferFits s buf = true →
        ∃ t, exec (i true) s = .next t ∧ t.engine ≠ none)

/-- `sbw` and `sbr` up to their first wait (rules R200, R201): the FIFO of the direction emptied with the clock kept on, all
latches cleared, SEND_STATUS sent to the fixed relative address. Nine register writes and nothing else. -/
def Obligations.BlockingTransfersResetTheFifoAndAskForStatus : Prop :=
  ∀ (s : State) (buf sector : Word), Quiet s → s.initialised = true → s.st.errState ≠ .processing →
    bufferFits s buf = true → s.hid.cmdPhase = .none →
    (∃ t c, exec (.sbw true buf sector) s = .next t
      ∧ run 9 t = .next { s.latchesCleared.commandSent 13#6 (s.cfg.rca ++ 0#16) with
          regs := { (s.latchesCleared.commandSent 13#6 (s.cfg.rca ++ 0#16)).regs with clkoe := true }
          hid := { s.hid with
            wfifo := [], cmdPhase := .sending, curIndex := 13#6, curArg := s.cfg.rca ++ 0#16 }
          engine := some c
          result := none }
      ∧ c.todo = [.pollSent, .pollResponse])
    ∧ (∃ t c, exec (.sbr true sector buf) s = .next t
      ∧ run 9 t = .next { s.latchesCleared.commandSent 13#6 (s.cfg.rca ++ 0#16) with
          regs := { (s.latchesCleared.commandSent 13#6 (s.cfg.rca ++ 0#16)).regs with clkoe := true }
          hid := { s.hid with
            rfifo := [], cmdPhase := .sending, curIndex := 13#6, curArg := s.cfg.rca ++ 0#16 }
          engine := some c
          result := none }
      ∧ c.todo = [.pollSent, .pollResponse])

/-- The loop of `sbw` (rule R200): exactly `cfg.BLOCK_WORDS` writes of `WDR`, in program order, the words of the buffer; nothing
else changes. The byte order of a word is written out in `BlockReadDrainsTheFifo`. -/
def Obligations.BlockWriteFillsTheFifo : Prop :=
  ∀ (s : State) (buf : Word) (m : Micro) (rest : List Micro) (p : Point) (l : Locals),
    s.faulted = none → s.disp = none → s.agenda = [] →
    s.engine = some ⟨(List.range s.cfg.blockWords).map (.fill buf) ++ m :: rest, p, l⟩ →
    s.hid.wfifo.length + s.cfg.blockWords ≤ fifoDepth s.cfg →
    run s.cfg.blockWords s = .next { s with
      hid := { s.hid with
        wfifo := s.hid.wfifo ++ (List.range s.cfg.blockWords).map (bufWord s.cfg.littleEndian s.mem buf) }
      engine := some ⟨m :: rest, p, l⟩ }

/-- The loop of `sbr` (rule R201): exactly `cfg.BLOCK_WORDS` reads of `RDR`, the words stored in the buffer in order; every other
byte of memory and everything else unchanged, the memory still canonical. And which four bytes `buf32[i]` is, least significant
first or last as `cfg.LITTLE_ENDIAN` has it (20_memory.md rule R67). -/
def Obligations.BlockReadDrainsTheFifo : Prop :=
  (∀ (s : State) (buf : Word) (m : Micro) (rest : List Micro) (p : Point) (l : Locals) (ws more : List Word),
    s.faulted = none → s.disp = none → s.agenda = [] →
    s.engine = some ⟨(List.range s.cfg.blockWords).map (.drain (.caller buf)) ++ m :: rest, p, l⟩ →
    Memory.wf s.mem = true → s.hid.rfifo = ws ++ more → ws.length = s.cfg.blockWords →
    ∃ mem, run s.cfg.blockWords s = .next { s with
        mem := mem, hid := { s.hid with rfifo := more }, engine := some ⟨m :: rest, p, l⟩ }
      ∧ Memory.wf mem = true
      ∧ (∀ i, i < s.cfg.blockWords → bufWord s.cfg.littleEndian mem buf i = ws.getD i 0#32)
      ∧ ∀ a, a < buf.toNat ∨ buf.toNat + 4 * s.cfg.blockWords ≤ a → mem.read a = s.mem.read a)
  ∧ ∀ (mem : Memory) (buf : Word) (i : Nat),
    bufWord true mem buf i = mem.read (buf.toNat + 4 * i + 3) ++ mem.read (buf.toNat + 4 * i + 2)
      ++ mem.read (buf.toNat + 4 * i + 1) ++ mem.read (buf.toNat + 4 * i)
    ∧ bufWord false mem buf i = mem.read (buf.toNat + 4 * i) ++ mem.read (buf.toNat + 4 * i + 1)
      ++ mem.read (buf.toNat + 4 * i + 2) ++ mem.read (buf.toNat + 4 * i + 3)

/-- The table of error codes (rule R204), row by row, with what comes between (rules R191, R200, R201, R203). While `wait_ready`
reads `Busy` it asks again; its `Fail`, before the data or after, is `SbWriteFail` or `SbReadFail`; a data command that answers `Fail` or
`Busy` likewise; while `DONE` is clear the operation stays; at `DONE` the CRC error comes before the control error, which is
`SbWriteFail` of a write and `ReadCtrlErr` of a read; with none of these `TransferSuccess`. A read for the scratch buffer of
initialization exits `init` with the same code (42_initialization.md rule R189). A result is taken at the step in which it becomes
known (`State.CommandEnds`). -/
def Obligations.BlockingTransfersEndAsTheErrorTableSays : Prop :=
  ∀ (s : State) (buf sector : Word) (dest : Dest),
    (∀ w, s.CommandEnds (.ready w) .busy → s.Issues 13#6 (s.cfg.rca ++ 0#16) (.ready w) (step s))
    ∧ (s.CommandEnds (.ready (.writeBefore buf sector)) .fail → s.Returns .sbWriteFail (step s))
    ∧ (s.CommandEnds (.ready (.writeBefore buf sector)) .success → s.Issues 24#6 sector (.writeCmd buf) (step s))
    ∧ (∀ r, r ≠ .success → s.CommandEnds (.writeCmd buf) r → s.Returns .sbWriteFail (step s))
    ∧ (s.CommandEnds (.writeCmd buf) .success → ∃ l, step s = .next { s with
        engine := some ⟨(List.range s.cfg.blockWords).map (.fill buf) ++ [.pollDone], .writeDone, l⟩ })
    ∧ (s.CommandEnds (.ready .writeAfter) .fail → s.Returns .sbWriteFail (step s))
    ∧ (s.CommandEnds (.ready .writeAfter) .success → s.Returns .transferSuccess (step s))
    ∧ (s.CommandEnds (.ready (.readBefore sector dest)) .fail → s.ReadFails dest .sbReadFail (step s))
    ∧ (s.CommandEnds (.ready (.readBefore sector dest)) .success →
        (sector = s.cfg.extCsdSentinel → s.Issues 8#6 0#32 (.readCmd dest) (step s))
        ∧ (sector ≠ s.cfg.extCsdSentinel → s.Issues 17#6 sector (.readCmd dest) (step s)))
    ∧ (∀ r, r ≠ .success → s.CommandEnds (.readCmd dest) r → s.ReadFails dest .sbReadFail (step s))
    ∧ (s.CommandEnds (.readCmd dest) .success →
        ∃ l, step s = .next { s with engine := some ⟨[.pollDone], .readDone dest, l⟩ })
    ∧ (s.CommandEnds (.ready (.readAfter dest)) .fail → s.ReadFails dest .sbReadFail (step s))
    ∧ (s.CommandEnds (.ready (.readAfter (.caller buf))) .success → s.Returns .transferSuccess (step s))
    ∧ ∀ l : Locals, s.faulted = none → s.disp = none → s.agenda = [] →
      (s.engine = some ⟨[.pollDone], .writeDone, l⟩ →
        (s.regs.sbisr.getLsbD 0 = false →
          ∃ l', step s = .next { s with engine := some ⟨[.pollDone], .writeDone, l'⟩ })
        ∧ (s.regs.sbisr.getLsbD 0 = true → s.regs.sbisr.getLsbD 1 = true → s.Returns .crcErr (step s))
        ∧ (s.regs.sbisr.getLsbD 0 = true → s.regs.sbisr.getLsbD 1 = false → s.regs.sbisr.getLsbD 2 = true →
            s.Returns .sbWriteFail (step s))
        ∧ (s.regs.sbisr.getLsbD 0 = true → s.regs.sbisr.getLsbD 1 = false → s.regs.sbisr.getLsbD 2 = false →
            s.Issues 13#6 (s.cfg.rca ++ 0#16) (.ready .writeAfter) (step s)))
      ∧ (s.engine = some ⟨[.pollDone], .readDone dest, l⟩ →
        (s.regs.sbisr.getLsbD 0 = false →
          ∃ l', step s = .next { s with engine := some ⟨[.pollDone], .readDone dest, l'⟩ })
        ∧ (s.regs.sbisr.getLsbD 0 = true → s.regs.sbisr.getLsbD 1 = true → s.ReadFails dest .crcErr (step s))
        ∧ (s.regs.sbisr.getLsbD 0 = true → s.regs.sbisr.getLsbD 1 = false → s.regs.sbisr.getLsbD 2 = true →
            s.ReadFails dest .readCtrlErr (step s))
        ∧ (s.regs.sbisr.getLsbD 0 = true → s.regs.sbisr.getLsbD 1 = false → s.regs.sbisr.getLsbD 2 = false →
            ∃ l', step s = .next { s with
              engine := some ⟨(List.range s.cfg.blockWords).map (.drain dest) ++ clearAll ++ fiveWrites 13#6 (s.cfg.rca ++ 0#16)
                  ++ [.pollSent, .pollResponse],
                .responded 13#6 (.ready (.readAfter dest)), l'⟩ }))

/-! ### Non-blocking operations -/

/-- Validation of the four start operations (44_nonblocking_transfers.md rule R215), in this order: null instance, zero block count,
zero timeout are assertion faults; then not initialised and a transfer in flight are refused. A fault changes nothing but
`faulted` (60_exceptions.md rule R266). A tick operand is the low `cfg.TICK_BITS` bits of its word (log entry 11, DEDUCED). -/
def Obligations.StartOperationsValidateInOrder : Prop :=
  ∀ (s : State) (sector t0 lim : Word) (n : BitVec 16) (budget : Nat), budget = lim.toNat % 2 ^ s.cfg.tickBits →
    (∀ i : Instr, i = .mbw true sector n t0 lim ∨ i = .mbr true sector n t0 lim →
      (n = 0#16 → exec i s = .next { s with faulted := some .zeroBlockCount })
      ∧ (n ≠ 0#16 → budget = 0 → exec i s = .next { s with faulted := some .zeroTimeout })
      ∧ (n ≠ 0#16 → budget ≠ 0 → s.initialised = false → exec i s = .refused .notInitialised)
      ∧ (n ≠ 0#16 → budget ≠ 0 → s.initialised = true → s.st.errState = .processing →
          exec i s = .refused .transferInFlight))
    ∧ (∀ i : Instr, i = .sbwNb true sector t0 lim ∨ i = .sbrNb true sector t0 lim →
      (budget = 0 → exec i s = .next { s with faulted := some .zeroTimeout })
      ∧ (budget ≠ 0 → s.initialised = false → exec i s = .refused .notInitialised)
      ∧ (budget ≠ 0 → s.initialised = true → s.st.errState = .processing → exec i s = .refused .transferInFlight))
    ∧ (∀ i : Instr, i = .mbw false sector n t0 lim ∨ i = .mbr false sector n t0 lim ∨ i = .sbwNb false sector t0 lim
        ∨ i = .sbrNb false sector t0 lim → exec i s = .next { s with faulted := some .nullInstance })

/-- The four start operations (rules R216 to R220): seventeen steps after the request the Status record holds the operands, the
latches are clear, the class's sources are unmasked, SEND_STATUS has been sent, and `Processing` is handed back. A single read of
the sentinel drives the extended-CSD chain. A tick operand is the low `cfg.TICK_BITS` bits of its word (log entry 11, DEDUCED). -/
def Obligations.StartOperationsArmTheInterrupts : Prop :=
  ∀ (s : State) (sector t0 lim : Word) (n : BitVec 16) (start budget : Nat),
    Quiet s → s.initialised = true → s.st.errState ≠ .processing →
    s.hid.cmdPhase = .none → start = t0.toNat % 2 ^ s.cfg.tickBits → budget = lim.toNat % 2 ^ s.cfg.tickBits → budget ≠ 0 →
    (∃ t, exec (.sbwNb true sector t0 lim) s = .next t ∧ run 17 t = .next (s.started .sw sector 1#16 start budget))
    ∧ (∃ t, exec (.sbrNb true sector t0 lim) s = .next t
      ∧ (sector = s.cfg.extCsdSentinel → run 17 t = .next (s.started .xr sector 1#16 start budget))
      ∧ (sector ≠ s.cfg.extCsdSentinel → run 17 t = .next (s.started .sr sector 1#16 start budget)))
    ∧ (n ≠ 0#16 →
      (∃ t, exec (.mbw true sector n t0 lim) s = .next t ∧ run 17 t = .next (s.started .mw sector n start budget))
      ∧ ∃ t, exec (.mbr true sector n t0 lim) s = .next t ∧ run 17 t = .next (s.started .mr sector n start budget))

/-- `status` (rule R221): refused before any `init` has exited; past the budget, where the test applies, the latches are cleared,
the masks zeroed and the state is `Error` with `AppTimeoutFail`; otherwise the sticky code is returned and nothing changes. The
elapsed count `e`, the one number below 2^`cfg.TICK_BITS` that leads from the start tick to `now`, wraps (60_exceptions.md rule
R275, 70_reset_and_hazards.md rule R307), and the comparison is strict. The tick operand is the low `cfg.TICK_BITS` bits of its
word (log entry 11, DEDUCED). -/
def Obligations.StatusTimesOutOrReturnsTheStickyCode : Prop :=
  ∀ (s : State) (now : Word),
    (s.initExited = false → exec (.status true now) s = .refused .statusUnwritten)
    ∧ (∃ e, e < 2 ^ s.cfg.tickBits
        ∧ (s.st.startTick + e) % 2 ^ s.cfg.tickBits = now.toNat % 2 ^ s.cfg.tickBits)
    ∧ ∀ e, e < 2 ^ s.cfg.tickBits →
      (s.st.startTick + e) % 2 ^ s.cfg.tickBits = now.toNat % 2 ^ s.cfg.tickBits → s.initExited = true →
      ((s.cfg.timeoutScope = .always ∨ s.st.errState = .processing) → s.st.timeoutTicks < e → Quiet s →
        ∃ t, exec (.status true now) s = .next t
          ∧ run 8 t = .next { s.latchesCleared.allMasked with
              st := { s.st with state := .error, errState := .appTimeoutFail }
              result := some (.errCode .appTimeoutFail) })
      ∧ (((s.cfg.timeoutScope = .inFlightOnly ∧ s.st.errState ≠ .processing) ∨ e ≤ s.st.timeoutTicks) →
        exec (.status true now) s = .next { s with result := some (.errCode s.st.errState) })

/-- `init_fifo`, `wfifo_addr`, `rfifo_addr` (rules R222 to R224): both FIFOs emptied with the clock kept on; the addresses of the
two ports, 0x1C and 0x20 above the base at the default offsets, no register accessed. -/
def Obligations.FifoResetAndPortAddresses : Prop :=
  ∀ s : State,
    exec (.initFifo true) s = .next { s with
      regs := { s.regs with clkoe := true }, hid := { s.hid with wfifo := [], rfifo := [] }, result := none }
    ∧ exec (.wfifoAddr true) s = .next { s with result := some (.address (s.cfg.base + s.cfg.off.wdr.setWidth 32)) }
    ∧ exec (.rfifoAddr true) s = .next { s with result := some (.address (s.cfg.base + s.cfg.off.rdr.setWidth 32)) }
    ∧ (s.cfg.off = Config.offsetTable →
      s.cfg.base + s.cfg.off.wdr.setWidth 32 = s.cfg.base + 0x1C#32
      ∧ s.cfg.base + s.cfg.off.rdr.setWidth 32 = s.cfg.base + 0x20#32)

/-- A null instance (60_exceptions.md rule R266): each of the twelve operations HOST can request raises the assertion fault, which
changes nothing but `faulted`, before any other test; and no later step is served. -/
def Obligations.NullInstanceFaultsEveryOperation : Prop :=
  ∀ (s : State) (a b c : Word) (d e : Byte) (n : BitVec 16) (i : Instr),
    i ∈ [Instr.init false d e, .sbw false a b, .sbr false a b, .sbwNb false a b c, .sbrNb false a b c,
      .mbw false a n b c, .mbr false a n b c, .status false a, .isr false, .initFifo false, .wfifoAddr false,
      .rfifoAddr false] →
    exec i s = .next { s with faulted := some .nullInstance }
    ∧ step { s with faulted := some .nullInstance } = .fault (.assertFault .nullInstance)

/-! ### The interrupt dispatcher -/

/-- `has_error` and `classify` (45_interrupt_state_machine.md rule R239): the under- or over-fill overrides, then the FIFO timeout,
then the silence pattern, then the rest. -/
def Obligations.ErrorClassificationOrder : Prop :=
  ∀ c b : Byte,
    (hasError c b = true ↔ c.getLsbD 2 = true ∨ c.getLsbD 3 = true ∨ b.getLsbD 1 = true ∨ b.getLsbD 2 = true
      ∨ b.getLsbD 3 = true ∨ b.getLsbD 4 = true)
    ∧ (b.getLsbD 4 = true → classify c b = .userErrorFail)
    ∧ (b.getLsbD 4 = false → b.getLsbD 3 = true → classify c b = .timeoutFail)
    ∧ (b.getLsbD 4 = false → b.getLsbD 3 = false → c.getLsbD 0 = true → c.getLsbD 2 = true → c.getLsbD 3 = true →
        classify c b = .noResponseFail)
    ∧ (b.getLsbD 4 = false → b.getLsbD 3 = false →
        ¬ (c.getLsbD 0 = true ∧ c.getLsbD 2 = true ∧ c.getLsbD 3 = true) → classify c b = .otherFail)

/-- The five chains (rule R247): tier, whether it has a block count, data command, its argument, failure code. And the states of
each chain (10_state.md rule R24, rule R248): the states its steps go to, and the chain and the step of every state, none for the three
shared ones. -/
def Obligations.ChainTableIsTheSpecs : Prop :=
  (∀ sector : Word,
    (Chain.sw.tier, Chain.sw.multi, Chain.sw.dataCmd, Chain.sw.dataArg sector, Chain.sw.failCode)
      = (.sb, false, 24#6, sector, .sbWriteFail)
    ∧ (Chain.mw.tier, Chain.mw.multi, Chain.mw.dataCmd, Chain.mw.dataArg sector, Chain.mw.failCode)
      = (.mb, true, 25#6, sector, .mbWriteFail)
    ∧ (Chain.sr.tier, Chain.sr.multi, Chain.sr.dataCmd, Chain.sr.dataArg sector, Chain.sr.failCode)
      = (.sb, false, 17#6, sector, .sbReadFail)
    ∧ (Chain.mr.tier, Chain.mr.multi, Chain.mr.dataCmd, Chain.mr.dataArg sector, Chain.mr.failCode)
      = (.mb, true, 18#6, sector, .mbReadFail)
    ∧ (Chain.xr.tier, Chain.xr.multi, Chain.xr.dataCmd, Chain.xr.dataArg sector, Chain.xr.failCode)
      = (.sb, false, 8#6, 0#32, .sbReadFail))
  ∧ (Chain.sw.parseStatus, Chain.sw.afterStatus, Chain.sw.issueData, Chain.sw.awaitDone)
      = (.swParseStatus, .swIssueData, .swIssueData, .swAwaitDone)
  ∧ (Chain.mw.parseStatus, Chain.mw.afterStatus, Chain.mw.issueData, Chain.mw.awaitDone)
      = (.mwParseStatus, .mwParseBlockCount, .mwIssueData, .mwAwaitDone)
  ∧ (Chain.sr.parseStatus, Chain.sr.afterStatus, Chain.sr.issueData, Chain.sr.awaitDone)
      = (.srParseStatus, .srIssueData, .srIssueData, .srAwaitDone)
  ∧ (Chain.mr.parseStatus, Chain.mr.afterStatus, Chain.mr.issueData, Chain.mr.awaitDone)
      = (.mrParseStatus, .mrParseBlockCount, .mrIssueData, .mrAwaitDone)
  ∧ (Chain.xr.parseStatus, Chain.xr.afterStatus, Chain.xr.issueData, Chain.xr.awaitDone)
      = (.xrParseStatus, .xrIssueData, .xrIssueData, .xrAwaitDone)
  ∧ ∀ (f : FsmState) (x : Chain) (k : ChainStep), f.chain? = some (x, k) ↔
    (f, x, k) ∈ [(FsmState.swParseStatus, Chain.sw, ChainStep.parseStatus), (.swIssueData, .sw, .issueData),
      (.swAwaitDone, .sw, .awaitDone),
      (.mwParseStatus, .mw, .parseStatus), (.mwParseBlockCount, .mw, .parseBlockCount), (.mwIssueData, .mw, .issueData),
      (.mwAwaitDone, .mw, .awaitDone),
      (.srParseStatus, .sr, .parseStatus), (.srIssueData, .sr, .issueData), (.srAwaitDone, .sr, .awaitDone),
      (.mrParseStatus, .mr, .parseStatus), (.mrParseBlockCount, .mr, .parseBlockCount), (.mrIssueData, .mr, .issueData),
      (.mrAwaitDone, .mr, .awaitDone),
      (.xrParseStatus, .xr, .parseStatus), (.xrIssueData, .xr, .issueData), (.xrAwaitDone, .xr, .awaitDone)]

/-- A delivery in `Idle`, `Error` or `StopTransmission` (rules R237, R238): all latches cleared, all masks zeroed, `Error` with
`IntStatusFail`, the kept code, or the recorded one. Before any `init` has exited `isr` is refused (rule R235). -/
def Obligations.TerminalAndAbortDeliveriesEndInError : Prop :=
  ∀ s : State,
    (s.initExited = false → exec (.isr true) s = .refused .statusUnwritten)
    ∧ (s.initExited = true → Quiet s →
      ∃ t, exec (.isr true) s = .next t
        ∧ (s.st.state = .idle → run 11 t = .next { s.latchesCleared.allMasked with
            st := { s.st with state := .error, errState := .intStatusFail } })
        ∧ (s.st.state = .error → run 10 t = .next s.latchesCleared.allMasked)
        ∧ (s.st.state = .stopTransmission → run 11 t = .next { s.latchesCleared.allMasked with
            st := { s.st with state := .error, errState := s.st.tempErr } }))

/-- A chain state with an error bit in the snapshot (rules R236, R240): the transfer is aborted with the classified code,
STOP_TRANSMISSION is sent, `err_state` and the masks are kept. With a command still open the trigger is refused
(40_register_model.md rule R136). -/
def Obligations.ErrorDeliveryAbortsTheTransfer : Prop :=
  ∀ (s : State) (x : Chain) (k : ChainStep), s.initExited = true → Quiet s → s.st.state.chain? = some (x, k) →
    hasError s.regs.isr (s.tierStatus x) = true →
    ∃ t, exec (.isr true) s = .next t
      ∧ (s.hid.cmdPhase = .none → run 13 t = .next (s.aborted (classify s.regs.isr (s.tierStatus x))))
      ∧ (s.hid.cmdPhase ≠ .none → run 13 t = .refused .commandInFlight)

/-- A chain state with no error bit and not the expected bit (rule R241): the delivery reads its snapshot and changes nothing. -/
def Obligations.UnexpectedDeliveryChangesNothing : Prop :=
  ∀ (s : State) (x : Chain) (k : ChainStep), s.initExited = true → Quiet s → s.st.state.chain? = some (x, k) →
    hasError s.regs.isr (s.tierStatus x) = false →
    (k ≠ .awaitDone → s.regs.isr.getLsbD 1 = false) → (k = .awaitDone → (s.tierStatus x).getLsbD 0 = false) →
    ∃ t, exec (.isr true) s = .next t ∧ run 3 t = .next s

/-- A checkpoint whose response has arrived (rules R242 to R244, R249): without `SENT` it aborts with `OtherFail`, with an error bit
in the card status with the chain's code; `ParseStatus` asks again, or goes on to the block count or the data command;
`ParseBlockCount` goes on to the data command; `IssueData` waits for `DONE`. The states
these are in each chain are written out in `ChainTableIsTheSpecs`. -/
def Obligations.CheckpointDeliveriesFollowTheTable : Prop :=
  ∀ (s : State) (x : Chain) (k : ChainStep), s.initExited = true → Quiet s → s.st.state.chain? = some (x, k) →
    k ≠ .awaitDone → hasError s.regs.isr (s.tierStatus x) = false → s.regs.isr.getLsbD 1 = true →
    s.hid.cmdPhase = .none →
    ∃ t, exec (.isr true) s = .next t
      ∧ (s.regs.isr.getLsbD 0 = false → run 13 t = .next (s.aborted .otherFail))
      ∧ (s.regs.isr.getLsbD 0 = true → parseR1 s.cfg s.cardStatus = .fail → run 17 t = .next (s.aborted x.failCode))
      ∧ (s.regs.isr.getLsbD 0 = true → parseR1 s.cfg s.cardStatus ≠ .fail →
        (k = .parseStatus →
            (parseR1 s.cfg s.cardStatus = .busy ∨ curState s.cfg s.cardStatus ≠ s.cfg.stateTran) →
            run 14 t = .next (s.advanced x.parseStatus (s.cfg.rca ++ 0#16) 13#6))
        ∧ (k = .parseStatus → parseR1 s.cfg s.cardStatus = .success → curState s.cfg s.cardStatus = s.cfg.stateTran →
            (x.multi = true → run 14 t = .next (s.advanced x.afterStatus (s.st.blocks.setWidth 32) 23#6))
            ∧ (x.multi = false → run 14 t = .next (s.advanced x.issueData (x.dataArg s.st.sector) x.dataCmd)))
        ∧ (k = .parseBlockCount → run 14 t = .next (s.advanced x.issueData (x.dataArg s.st.sector) x.dataCmd))
        ∧ (k = .issueData → run 9 t = .next { s with
            regs := { s.regs with isr := 0#8 }, st := { s.st with state := x.awaitDone } }))

/-- `AwaitDone` with `DONE` and no error bit (rules R245, R246): the transfer completes in `Idle` with `TransferSuccess`, latches
cleared, masks zeroed, the operands kept. -/
def Obligations.DoneDeliveryCompletesTheTransfer : Prop :=
  ∀ (s : State) (x : Chain), s.initExited = true → Quiet s → s.st.state.chain? = some (x, .awaitDone) →
    hasError s.regs.isr (s.tierStatus x) = false → (s.tierStatus x).getLsbD 0 = true →
    ∃ t, exec (.isr true) s = .next t
      ∧ run 11 t = .next { s.latchesCleared.allMasked with
          st := { s.st with state := .idle, errState := .transferSuccess } }

/-- A delivery has no loop (rule R235). Every step DISPATCHER takes of one lowers the number of steps it has left at most
(`Ctx.deliverySteps`), whatever the state, until it ends. So from its start, with no CONTROLLER event inside, it ends within
seventeen steps and at most fifteen register transactions, or its trigger is refused because a command is still open. -/
def Obligations.DeliveryIsBounded : Prop :=
  (∀ (s t : State) (c : Ctx), s.disp = some c → c.isDelivery = true → c.todo ≠ [] → dispatcherStep s = .next t →
    t.disp = none ∨ ∃ c', t.disp = some c' ∧ c'.isDelivery = true ∧ c'.todo ≠ [] ∧ c'.deliverySteps < c.deliverySteps)
  ∧ Ctx.deliveryStart.deliverySteps = 17
  ∧ ∀ s : State, s.faulted = none → s.agenda = [] → s.disp = some Ctx.deliveryStart →
    ∃ n, n ≤ 17 ∧ dispatcherTransactions n s ≤ 15
      ∧ ((∃ u, run n s = .next u ∧ u.disp = none) ∨ run n s = .refused .commandInFlight)

/-- A single-block write from its request to its return (43_blocking_transfers.md rule R200), with DEVICE answering each of the
three commands by an R1 response (30_encoding.md rule R88) with a ready card status without error and CONTROLLER moving the
block: it returns `TransferSuccess`, DEVICE has been handed exactly the `cfg.BLOCK_WORDS` words of the buffer in order, and the
Status record and caller memory are as before. The agenda schedules the agents (log entry 3). -/
def Obligations.BlockingWriteHandsTheBlockToTheDevice : Prop :=
  ∀ (s : State) (buf sector : Word) (p1 p2 p3 : BitVec 48) (schedule : List Turn),
    Quiet s → s.initialised = true → s.st.errState ≠ .processing → bufferFits s buf = true →
    s.hid.cmdPhase = .none → s.cfg.blockWords ≤ fifoDepth s.cfg →
    responseFits 13#6 (.short p1) = true → responseFits 24#6 (.short p2) = true → responseFits 13#6 (.short p3) = true →
    parseR1 s.cfg (p1.extractLsb' 8 32) = .success → parseR1 s.cfg (p2.extractLsb' 8 32) = .success →
    parseR1 s.cfg (p3.extractLsb' 8 32) = .success →
    schedule = [.engine] ++ answeredCommand (.short p1) 6 ++ answeredCommand (.short p2) 6
      ++ List.replicate s.cfg.blockWords .engine ++ List.replicate s.cfg.blockWords (.event .wordOut)
      ++ [.event (.dataDone false false), .engine] ++ answeredCommand (.short p3) 6 →
    ∃ t u, exec (.sbw true buf sector) s = .next t
      ∧ run schedule.length (t.setAgenda schedule) = .next u
      ∧ u.engine = none ∧ u.result = some (.errCode .transferSuccess)
      ∧ u.deviceWords = s.deviceWords ++ (List.range s.cfg.blockWords).map (bufWord s.cfg.littleEndian s.mem buf)
      ∧ u.hid.wfifo = [] ∧ u.hid.dataPhase = .none ∧ u.regs.isr = 0x03#8 ∧ u.regs.sbisr = 0x00#8
      ∧ u.st = s.st ∧ u.inst = s.inst ∧ u.mem = s.mem

/-- A single-block read from its request to its return (43_blocking_transfers.md rule R201), of any sector, the sentinel included,
with DEVICE answering each of the three commands by an R1 response (30_encoding.md rule R88) with a ready card status without
error and CONTROLLER moving `cfg.BLOCK_WORDS` words: it returns `TransferSuccess`, the buffer holds the words in order, every other byte of caller memory and the Status record
are as before, and DEVICE has been handed nothing. The agenda schedules the agents (log entry 3). -/
def Obligations.BlockingReadFillsTheBuffer : Prop :=
  ∀ (s : State) (buf sector : Word) (p1 p2 p3 : BitVec 48) (ws : List Word) (schedule : List Turn),
    Quiet s → s.initialised = true → s.st.errState ≠ .processing → bufferFits s buf = true →
    s.hid.cmdPhase = .none → s.cfg.blockWords ≤ fifoDepth s.cfg → Memory.wf s.mem = true → ws.length = s.cfg.blockWords →
    responseFits 13#6 (.short p1) = true →
    (sector = s.cfg.extCsdSentinel → responseFits 8#6 (.short p2) = true) →
    (sector ≠ s.cfg.extCsdSentinel → responseFits 17#6 (.short p2) = true) →
    responseFits 13#6 (.short p3) = true →
    parseR1 s.cfg (p1.extractLsb' 8 32) = .success → parseR1 s.cfg (p2.extractLsb' 8 32) = .success →
    parseR1 s.cfg (p3.extractLsb' 8 32) = .success →
    schedule = [.engine] ++ answeredCommand (.short p1) 6 ++ answeredCommand (.short p2) 6
      ++ ws.map (fun w => .event (.wordIn w))
      ++ [.event (.dataDone false false), .engine] ++ List.replicate s.cfg.blockWords .engine
      ++ answeredCommand (.short p3) 6 →
    ∃ t u, exec (.sbr true sector buf) s = .next t
      ∧ run schedule.length (t.setAgenda schedule) = .next u
      ∧ u.engine = none ∧ u.result = some (.errCode .transferSuccess)
      ∧ (∀ i, i < s.cfg.blockWords → bufWord s.cfg.littleEndian u.mem buf i = ws.getD i 0#32)
      ∧ (∀ a, a < buf.toNat ∨ buf.toNat + 4 * s.cfg.blockWords ≤ a → u.mem.read a = s.mem.read a)
      ∧ u.hid.rfifo = [] ∧ u.hid.dataPhase = .none ∧ u.regs.isr = 0x03#8 ∧ u.regs.sbisr = 0x00#8
      ∧ u.deviceWords = s.deviceWords ∧ u.st = s.st ∧ u.inst = s.inst

/-- The whole of `init` (42_initialization.md rules R180 to R191; the source's concrete scenario S8), with a controller of any width
and a DEVICE that answers every command without error and ready (`p k` is its k-th R1 answer, `o` its OCR, `q` its CID, each laid
out as 30_encoding.md rule R88 has it), is powered up in sector mode, and sends an Extended CSD of `cfg.BLOCK_WORDS` words, byte `k` of it `csd k`, with a non-zero
`HS_TIMING`: it returns `InitSuccess`, the geometry, the sector count, the card type and the timing are captured, the normal clock
divider is programmed, the latches are clear, and caller memory is as before. A controller 1 bit wide sends no bus switch
(rule R187). That `csd k` is 0 past the words sent, where a configuration's offset names such a byte, is the model's choice (log
entry 27, DESIGN CHOICE); no well-formed configuration does. Failing steps are `InitFollowsItsStepsOrExitsWithTheirCode`. The
agenda schedules the agents (log entry 3), and how many turns the reads of step 2 take is log entry 31. -/
def Obligations.InitBringsUpTheDevice : Prop :=
  ∀ (s : State) (initClkDiv clkDiv : Byte) (p : Nat → BitVec 48) (o : BitVec 48) (q : BitVec 136) (ws : List Word)
      (csd : Nat → Byte) (schedule : List Turn),
    Quiet s → s.initialised = false → s.hid.cmdPhase = .none → s.cfg.blockWords ≤ fifoDepth s.cfg →
    s.cfg.vrValue.extractLsb' 4 4 ∈ s.cfg.supportedRev → s.cfg.vrValue.extractLsb' 2 2 ≠ 3#2 →
    (∀ a ∈ [(0, 3#6), (1, 7#6), (2, 6#6), (3, 13#6), (4, 6#6), (5, 13#6), (6, 13#6), (7, 8#6), (8, 13#6)],
      responseFits a.2 (.short (p a.1)) = true) →
    responseFits 1#6 (.short o) = true → responseFits 2#6 (.long q) = true →
    (∀ k, parseR1 s.cfg ((p k).extractLsb' 8 32) = .success) →
    (o.extractLsb' 8 32).getLsbD s.cfg.ocrReadyBit = true →
    ocrMode s.cfg (o.extractLsb' 8 32) = s.cfg.ocrModeSector →
    ws.length = s.cfg.blockWords →
    (s.cfg.littleEndian = true → ∀ k, csd k = (ws.getD (k / 4) 0#32).extractLsb' (8 * (k % 4)) 8) →
    (s.cfg.littleEndian = false → ∀ k, csd k = (ws.getD (k / 4) 0#32).extractLsb' (24 - 8 * (k % 4)) 8) →
    csd s.cfg.extCsdHsTiming.toNat ≠ 0#8 →
    schedule = List.replicate 10 .engine ++ List.replicate 8 .engine ++ [.event .cmdSent, .engine]
      ++ answeredCommand (.short o) 6 ++ answeredCommand (.long q) 2 ++ answeredCommand (.short (p 0)) 6
      ++ answeredCommand (.short (p 1)) 6
      ++ (if s.cfg.vrValue.extractLsb' 2 2 = 0#2 then []
          else answeredCommand (.short (p 2)) 6 ++ answeredCommand (.short (p 3)) 6)
      ++ answeredCommand (.short (p 4)) 6 ++ answeredCommand (.short (p 5)) 6 ++ List.replicate 3 .engine
      ++ answeredCommand (.short (p 6)) 6 ++ answeredCommand (.short (p 7)) 6
      ++ ws.map (fun w => .event (.wordIn w)) ++ [.event (.dataDone false false), .engine]
      ++ List.replicate s.cfg.blockWords .engine ++ answeredCommand (.short (p 8)) 6 ++ List.replicate 14 .engine →
    ∃ t u depth width, exec (.init true initClkDiv clkDiv) s = .next t
      ∧ run schedule.length (t.setAgenda schedule) = .next u
      ∧ u.engine = none ∧ u.result = some (.errCode .initSuccess) ∧ u.initialised = true ∧ u.initExited = true
      ∧ u.inst =
        { base := s.cfg.base
          sectorCount := csd (s.cfg.extCsdSecCount + 3) ++ csd (s.cfg.extCsdSecCount + 2)
            ++ csd (s.cfg.extCsdSecCount + 1) ++ csd s.cfg.extCsdSecCount
          busWidth := width
          clkDiv := clkDiv
          hwMajor := s.cfg.mjvrValue
          hwMinor := s.cfg.mivrValue
          hsTiming := csd s.cfg.extCsdHsTiming.toNat
          fifoDepthWords := depth
          cardType := csd s.cfg.extCsdCardType }
      ∧ (s.cfg.vrValue.extractLsb' 0 2 = 0#2 → depth = s.cfg.fifoDepth0)
      ∧ (s.cfg.vrValue.extractLsb' 0 2 = 1#2 → depth = s.cfg.fifoDepth1)
      ∧ (s.cfg.vrValue.extractLsb' 0 2 = 2#2 → depth = s.cfg.fifoDepth2)
      ∧ (s.cfg.vrValue.extractLsb' 0 2 = 3#2 → depth = s.cfg.fifoDepth3)
      ∧ (s.cfg.vrValue.extractLsb' 2 2 = 0#2 → width = 1#4)
      ∧ (s.cfg.vrValue.extractLsb' 2 2 = 1#2 → width = 4#4)
      ∧ (s.cfg.vrValue.extractLsb' 2 2 = 2#2 → width = 8#4)
      ∧ u.st = ⟨.idle, 0, 0, 0, 2 ^ s.cfg.tickBits - 1, .initSuccess, .initSuccess⟩
      ∧ u.regs.clkr = clkDiv ∧ u.regs.clkoe = true ∧ u.regs.datato = s.cfg.dataTimeout
      ∧ u.regs.isr = 0#8 ∧ u.regs.sbisr = 0#8 ∧ u.regs.mbisr = 0#8
      ∧ u.hid.cmdPhase = .none ∧ u.hid.dataPhase = .none ∧ u.hid.rfifo = [] ∧ u.mem = s.mem
end

