-- ==== Sys2Proof/Laws/Bits.lean ====
section
/-! SUPPORT. The few facts about bit vectors that the step sequences need: a byte widened and cut again, an index in its
register, an argument taken apart and put together. -/

namespace Sys2Proof

@[simp] theorem lowByte_zext (b : Byte) : Word.lowByte (Byte.zext b) = b := by
  simp [Word.lowByte, Byte.zext]

/-- `CMDX` keeps a six-bit index whole (10_state.md rule R30). -/
@[simp] theorem cmdx_of_index (index : BitVec 6) : Word.lowByte (index.setWidth 32) &&& 0x3F#8 = index.setWidth 8 := by
  revert index
  decide

/-- The same with the widening already cut, the form `simp` brings it to. -/
@[simp] theorem index_masked (index : BitVec 6) : index.setWidth 8 &&& 63#8 = index.setWidth 8 := by
  revert index
  decide

/-- The index read back from `CMDX`. -/
@[simp] theorem index_of_cmdx (index : BitVec 6) : (index.setWidth 8).extractLsb' 0 6 = index := by
  revert index
  decide

/-- The four argument bytes, most significant first, are the argument (10_state.md rule R31). -/
@[simp] theorem argument_of_bytes (v : Word) :
    v.extractLsb' 24 8 ++ v.extractLsb' 16 8 ++ v.extractLsb' 8 8 ++ v.extractLsb' 0 8 = v := by
  ext i hi
  simp only [BitVec.getElem_append, BitVec.getElem_extractLsb']
  split
  · simp [BitVec.getLsbD_eq_getElem, hi]
  · split
    · rw [show 8 + (i - 8) = i by omega]; simp [BitVec.getLsbD_eq_getElem, hi]
    · split
      · rw [show 16 + (i - 8 - 8) = i by omega]; simp [BitVec.getLsbD_eq_getElem, hi]
      · rw [show 24 + (i - 8 - 8 - 8) = i by omega]; simp [BitVec.getLsbD_eq_getElem, hi]

/-- Clearing with 0xFF clears every bit (41_command_interface.md rule R166). -/
@[simp] theorem clear_all_bits (b : Byte) : b &&& ~~~(0xFF#8) = 0#8 := by
  revert b
  decide

/-- A payload byte enters at the low end (41_command_interface.md rule R168). -/
theorem payload_of_bytes (p : Word) (a b c d : Byte) :
    (((p.extractLsb' 0 24 ++ a : Word).extractLsb' 0 24 ++ b : Word).extractLsb' 0 24 ++ c : Word).extractLsb' 0 24 ++ d
      = a ++ b ++ c ++ d := by
  ext i hi
  simp only [BitVec.getElem_append, BitVec.getElem_extractLsb', BitVec.getLsbD_append, BitVec.getLsbD_extractLsb']
  by_cases h1 : i < 8
  · simp [h1]
  · by_cases h2 : i < 16
    · simp [h1, show i - 8 < 8 by omega]
    · by_cases h3 : i < 24
      · simp [h1, show ¬ i - 8 < 8 by omega, show i - 8 - 8 < 8 by omega, show i - 8 - 8 < 24 by omega]
      · simp [h1, show ¬ i - 8 < 8 by omega, show ¬ i - 8 - 8 < 8 by omega,
          show i - 8 - 8 < 24 by omega, show i - 8 - 8 - 8 < 8 by omega, show i - 8 - 8 - 8 < 24 by omega,
          BitVec.getLsbD_eq_getElem]

end Sys2Proof
end

