-- ==== Sys2Proof/Laws/Encoding.lean ====
section
/-! SUPPORT. How the decoder takes an encoded packet apart: the bytes of a half-word or a word put together again in both
byte orders, and the format each packet reaches (30_encoding.md rules R85, R86, R95). -/

namespace Sys2Proof

theorem bytesOfHalf_joined (le : Bool) (v : BitVec 16) :
    ∃ a b, bytesOfHalf le v = [a, b] ∧ halfOfBytes le a b = v := by
  have joined : v.extractLsb' 8 8 ++ v.extractLsb' 0 8 = v := by
    apply BitVec.eq_of_getElem_eq
    intro i hi
    rw [BitVec.getElem_append]
    split <;> simp only [BitVec.getElem_extractLsb'] <;> rw [BitVec.getLsbD_eq_getElem (by omega)] <;> congr 1 <;> omega
  cases le <;> exact ⟨_, _, rfl, joined⟩

theorem bytesOfWord_joined (le : Bool) (v : Word) :
    ∃ a b c d, bytesOfWord le v = [a, b, c, d] ∧ wordOfBytes le a b c d = v := by
  have joined : v.extractLsb' 24 8 ++ v.extractLsb' 16 8 ++ v.extractLsb' 8 8 ++ v.extractLsb' 0 8 = v := by
    apply BitVec.eq_of_getElem_eq
    intro i hi
    simp only [BitVec.getElem_append, BitVec.getElem_extractLsb']
    split
    · rw [BitVec.getLsbD_eq_getElem (by omega)]
      congr 1
      omega
    · split
      · rw [BitVec.getLsbD_eq_getElem (by omega)]
        congr 1
        omega
      · split <;> rw [BitVec.getLsbD_eq_getElem (by omega)] <;> congr 1 <;> omega
  cases le <;> exact ⟨_, _, _, _, rfl, joined⟩

/-- Six bytes reach the format `REG`. -/
theorem decode_reg (k : Cfg) (header : BitVec 16) (data : Word) :
    decode k (bytesOfHalf k.littleEndian header ++ bytesOfWord k.littleEndian data) = decodeReg k.off header data := by
  obtain ⟨a, b, h1, h2⟩ := bytesOfHalf_joined k.littleEndian header
  obtain ⟨c, d, e, f, h3, h4⟩ := bytesOfWord_joined k.littleEndian data
  simp only [h1, h3, List.cons_append, List.nil_append, decode, h2, h4]

/-- The list holds every register. -/
theorem mem_allRegs (r : Reg) : r ∈ allRegs := by
  cases r
  case rr n =>
    revert n
    decide
  all_goals decide

/-- In a table with no two registers on one byte, an access of a register's size at its offset reaches that register
(10_state.md rule R51, 20_memory.md rule R63). -/
theorem regAt_offset {t : OffsetTable} (ht : t.wellFormed = true) (r : Reg) : regAt t r.size (r.offset t) = some r := by
  have first : ∀ (rs : List Reg), t.disjoint rs = true → r ∈ rs →
      rs.find? (fun q => q.size == r.size && q.offset t == r.offset t) = some r := by
    intro rs
    induction rs with
    | nil => intro _ h; cases h
    | cons q rest ih =>
      intro hd hr
      simp only [OffsetTable.disjoint, Bool.and_eq_true, List.all_eq_true] at hd
      by_cases hq : q = r
      · subst hq
        simp
      · have hr' : r ∈ rest := by
          rcases List.mem_cons.1 hr with h | h
          · exact absurd h.symm hq
          · exact h
        have ha := hd.1.2 r hr'
        have hb : 0 < q.size.bytes := by cases q.size <;> decide
        have hc : 0 < r.size.bytes := by cases r.size <;> decide
        have hne : (q.offset t == r.offset t) = false := by
          rw [beq_eq_false_iff_ne]
          intro he
          simp only [Reg.apart, he, Bool.or_eq_true, decide_eq_true_eq] at ha
          omega
        rw [List.find?_cons_of_neg (by simp [hne])]
        exact ih hd.2 hr'
  exact first allRegs ht (mem_allRegs r)

/-- A register's place ends inside the window (20_memory.md rule R60). -/
theorem offset_inside {t : OffsetTable} (ht : t.wellFormed = true) (r : Reg) :
    (r.offset t).toNat + r.size.bytes ≤ 0x52 := by
  have all : ∀ rs : List Reg, t.disjoint rs = true → ∀ q ∈ rs, q.placed t = true := by
    intro rs
    induction rs with
    | nil => intro _ q hq; cases hq
    | cons p rest ih =>
      intro hd q hq
      simp only [OffsetTable.disjoint, Bool.and_eq_true] at hd
      rcases List.mem_cons.1 hq with rfl | h
      · exact hd.1.1
      · exact ih hd.2 q h
  have := all allRegs ht r (mem_allRegs r)
  simp only [Reg.placed, Bool.and_eq_true, decide_eq_true_eq] at this
  exact this.2

/-- A register's offset is not reserved (10_state.md rule R44). -/
theorem offset_not_reserved (t : OffsetTable) (r : Reg) : isReservedOffset t (r.offset t) = false := by
  have hb : 0 < r.size.bytes := by cases r.size <;> decide
  have : allRegs.any (fun q => q.covers t (r.offset t).toNat) = true :=
    List.any_eq_true.2 ⟨r, mem_allRegs r, by simp [Reg.covers, hb]⟩
  simp [isReservedOffset, this]

/-- Five bytes reach the format `CMD`, whatever the byte order. -/
theorem decode_cmd (k : Cfg) (index : BitVec 6) (arg : Word) :
    decode k (encodeCmd index arg) = decodeCmd (index.setWidth 8) arg := by
  obtain ⟨a, b, c, d, h1, h2⟩ := bytesOfWord_joined false arg
  simp only [encodeCmd, h1, decode]
  rw [show a ++ b ++ c ++ d = wordOfBytes false a b c d from rfl, h2]

/-- Eighteen bytes reach the format `OP`. -/
theorem decode_op (k : Cfg) (op flags : Byte) (a b c d : Word) :
    decode k (op :: flags :: (bytesOfWord k.littleEndian a ++ bytesOfWord k.littleEndian b
        ++ bytesOfWord k.littleEndian c ++ bytesOfWord k.littleEndian d))
      = decodeOp op flags a b c d := by
  obtain ⟨a1, a2, a3, a4, h1, h2⟩ := bytesOfWord_joined k.littleEndian a
  obtain ⟨b1, b2, b3, b4, h3, h4⟩ := bytesOfWord_joined k.littleEndian b
  obtain ⟨c1, c2, c3, c4, h5, h6⟩ := bytesOfWord_joined k.littleEndian c
  obtain ⟨d1, d2, d3, d4, h7, h8⟩ := bytesOfWord_joined k.littleEndian d
  simp only [h1, h3, h5, h7, List.cons_append, List.nil_append, decode, h2, h4, h6, h8]

end Sys2Proof
end

