-- ==== Sys2Proof/Laws/Memory.lean ====
section
/-! SUPPORT. Caller memory: a read after a write, the canonical form kept by every write, and the words of a buffer. -/

namespace Sys2Proof.Machine

/-! ### One byte -/

theorem Memory.read_entry (m : Memory) (a : Nat) (v : Byte) (b : Nat) (h : a = b → m.read b = Memory.unlisted) :
    (Memory.entry a v m).read b = if a = b then v else m.read b := by
  unfold Memory.entry
  split
  · next hv =>
    subst hv
    split
    · next e => exact h e
    · rfl
  · simp [Memory.read]

/-- Every key of the list is above `a`. -/
def Memory.Above (a : Nat) (m : Memory) : Prop := ∀ c ∈ m, a < c.1

theorem Memory.read_above {a : Nat} {m : Memory} (h : Memory.Above a m) : m.read a = Memory.unlisted := by
  induction m with
  | nil => rfl
  | cons c rest ih =>
    obtain ⟨k, b⟩ := c
    have hk : a < k := h (k, b) (by simp)
    simp only [Memory.read]
    rw [if_neg (by omega)]
    exact ih fun c hc => h c (by simp [hc])

/-- The canonical form, head and tail apart. -/
theorem Memory.wf_cons (k : Nat) (b : Byte) (rest : Memory) :
    Memory.wf ((k, b) :: rest) = true ↔ b ≠ Memory.unlisted ∧ Memory.Above k rest ∧ Memory.wf rest = true := by
  induction rest generalizing k b with
  | nil => simp [Memory.wf, Memory.Above]
  | cons c rest ih =>
    obtain ⟨k', b'⟩ := c
    simp only [Memory.wf, Bool.and_eq_true, bne_iff_ne, ne_eq, decide_eq_true_eq]
    constructor
    · rintro ⟨⟨hb, hk⟩, hw⟩
      refine ⟨hb, ?_, hw⟩
      have := ((ih k' b').1 hw).2.1
      intro c hc
      rcases List.mem_cons.1 hc with rfl | hc
      · exact hk
      · exact Nat.lt_trans hk (this c hc)
    · rintro ⟨hb, ha, hw⟩
      exact ⟨⟨hb, ha (k', b') (by simp)⟩, hw⟩

theorem Memory.above_entry {a k : Nat} {v : Byte} {m : Memory} (hk : k < a) (h : Memory.Above k m) :
    Memory.Above k (Memory.entry a v m) := by
  unfold Memory.entry
  split
  · exact h
  · intro c hc
    rcases List.mem_cons.1 hc with rfl | hc
    · exact hk
    · exact h c hc

theorem Memory.above_write {a k : Nat} {v : Byte} {m : Memory} (hk : k < a) (h : Memory.Above k m) :
    Memory.Above k (m.write a v) := by
  induction m with
  | nil => exact above_entry hk h
  | cons c rest ih =>
    obtain ⟨k', b⟩ := c
    have hr : Memory.Above k rest := fun c hc => h c (by simp [hc])
    have hk' : k < k' := h (k', b) (by simp)
    simp only [Memory.write]
    split
    · exact above_entry hk h
    · split
      · exact above_entry hk hr
      · intro c hc
        rcases List.mem_cons.1 hc with rfl | hc
        · exact hk'
        · exact ih hr c hc

theorem Memory.wf_entry {a : Nat} {v : Byte} {m : Memory} (ha : Memory.Above a m) (h : Memory.wf m = true) :
    Memory.wf (Memory.entry a v m) = true := by
  unfold Memory.entry
  split
  · exact h
  · next hv => exact (wf_cons a v m).2 ⟨hv, ha, h⟩

/-- A write keeps the canonical form. -/
theorem Memory.wf_write {m : Memory} (a : Nat) (v : Byte) (h : Memory.wf m = true) : Memory.wf (m.write a v) = true := by
  induction m with
  | nil => exact wf_entry (fun c hc => by simp at hc) h
  | cons c rest ih =>
    obtain ⟨k, b⟩ := c
    obtain ⟨hb, ha, hw⟩ := (wf_cons k b rest).1 h
    simp only [Memory.write]
    split
    · next hk =>
      refine wf_entry (fun c hc => ?_) h
      rcases List.mem_cons.1 hc with rfl | hc
      · exact hk
      · exact Nat.lt_trans hk (ha c hc)
    · split
      · next hk => subst hk; exact wf_entry ha hw
      · exact (wf_cons _ _ _).2 ⟨hb, above_write (by omega) ha, ih hw⟩

/-- What a byte reads as after a write. -/
theorem Memory.read_write {m : Memory} (a : Nat) (v : Byte) (b : Nat) (h : Memory.wf m = true) :
    (m.write a v).read b = if a = b then v else m.read b := by
  induction m with
  | nil => exact read_entry [] a v b fun _ => rfl
  | cons c rest ih =>
    obtain ⟨k, x⟩ := c
    obtain ⟨_, ha, hw⟩ := (wf_cons k x rest).1 h
    simp only [Memory.write]
    split
    · next hk =>
      refine read_entry _ a v b fun e => ?_
      subst e
      refine read_above fun c hc => ?_
      rcases List.mem_cons.1 hc with rfl | hc
      · exact hk
      · exact Nat.lt_trans hk (ha c hc)
    · split
      · next hk =>
        subst hk
        rw [read_entry rest a v b fun e => e ▸ read_above ha]
        simp only [Memory.read]
        split <;> rfl
      · next h1 h2 =>
        simp only [Memory.read, ih hw]
        by_cases e : k = b
        · have : a ≠ b := by omega
          simp [e, this]
        · simp [e]

/-! ### Runs of bytes and buffer words -/

theorem wf_writeBytes (bs : List Byte) (m : Memory) (a : Nat) (h : Memory.wf m = true) :
    Memory.wf (writeBytes m a bs) = true := by
  induction bs generalizing m a with
  | nil => exact h
  | cons b rest ih => exact ih _ _ (Memory.wf_write a b h)

/-- What a byte reads as after bytes are written from `a` upwards. -/
theorem read_writeBytes (bs : List Byte) (m : Memory) (a b : Nat) (h : Memory.wf m = true) :
    (writeBytes m a bs).read b = if a ≤ b ∧ b < a + bs.length then bs.getD (b - a) 0#8 else m.read b := by
  induction bs generalizing m a with
  | nil => simp only [writeBytes, List.length_nil]; rw [if_neg (by omega)]
  | cons x rest ih =>
    simp only [writeBytes]
    rw [ih _ _ (Memory.wf_write a x h), Memory.read_write a x b h]
    by_cases h1 : a = b
    · subst h1
      rw [if_neg (by omega), if_pos rfl, if_pos (by simp)]
      simp
    · by_cases h2 : a ≤ b ∧ b < a + (x :: rest).length
      · simp only [List.length_cons] at h2
        rw [if_pos (by omega), if_pos (by simp only [List.length_cons]; omega)]
        obtain ⟨n, hn⟩ : ∃ n, b - a = n + 1 := ⟨b - a - 1, by omega⟩
        rw [hn, show b - (a + 1) = n by omega]
        simp
      · simp only [List.length_cons] at h2 ⊢
        rw [if_neg (by omega), if_neg h1, if_neg (by omega)]

theorem length_bytesOfWord (le : Bool) (w : Word) : (bytesOfWord le w).length = 4 := by
  cases le <;> rfl

theorem wf_setBufWord {m : Memory} (le : Bool) (b : Word) (i : Nat) (w : Word) (h : Memory.wf m = true) :
    Memory.wf (setBufWord le m b i w) = true :=
  wf_writeBytes _ _ _ h

/-- A byte outside the four bytes of word `i` reads as before. -/
theorem read_setBufWord_other {m : Memory} (le : Bool) (b : Word) (i : Nat) (w : Word) (a : Nat)
    (h : Memory.wf m = true) (ha : a < b.toNat + 4 * i ∨ b.toNat + 4 * i + 4 ≤ a) :
    (setBufWord le m b i w).read a = m.read a := by
  rw [setBufWord, read_writeBytes _ _ _ _ h, length_bytesOfWord, if_neg (by omega)]

/-- The bytes of a word, put together again. -/
theorem wordOfBytes_bytesOfWord (le : Bool) (w : Word) :
    wordOfBytes le ((bytesOfWord le w).getD 0 0#8) ((bytesOfWord le w).getD 1 0#8)
      ((bytesOfWord le w).getD 2 0#8) ((bytesOfWord le w).getD 3 0#8) = w := by
  cases le <;> simp only [wordOfBytes, bytesOfWord] <;> exact argument_of_bytes w

/-- The word written is the word read back. -/
theorem bufWord_setBufWord_same {m : Memory} (le : Bool) (b : Word) (i : Nat) (w : Word) (h : Memory.wf m = true) :
    bufWord le (setBufWord le m b i w) b i = w := by
  simp only [bufWord, setBufWord]
  rw [read_writeBytes _ _ _ _ h, read_writeBytes _ _ _ _ h, read_writeBytes _ _ _ _ h, read_writeBytes _ _ _ _ h,
    length_bytesOfWord]
  rw [if_pos (by omega), if_pos (by omega), if_pos (by omega), if_pos (by omega)]
  simp only [Nat.sub_self, Nat.add_sub_cancel_left]
  exact wordOfBytes_bytesOfWord le w

/-- Another word of the buffer reads as before. -/
theorem bufWord_setBufWord_other {m : Memory} (le : Bool) (b : Word) (i j : Nat) (w : Word) (h : Memory.wf m = true)
    (hij : i ≠ j) : bufWord le (setBufWord le m b i w) b j = bufWord le m b j := by
  simp only [bufWord]
  rw [read_setBufWord_other _ _ _ _ _ h (by omega), read_setBufWord_other _ _ _ _ _ h (by omega),
    read_setBufWord_other _ _ _ _ _ h (by omega), read_setBufWord_other _ _ _ _ _ h (by omega)]

/-- Reset's memory has the form. -/
theorem wf_reset : Memory.wf State.reset.mem = true := rfl

end Sys2Proof.Machine
end

