-- ==== Sys2Proof/Laws/State.lean ====
section
/-! SUPPORT. One lemma per field per update of `State`, so that no later proof unfolds a record update. -/

namespace Sys2Proof.Machine

variable (s : State)

@[simp] theorem State.setInst_cfg (v : Inst) : (s.setInst v).cfg = s.cfg := rfl
@[simp] theorem State.setInst_inst (v : Inst) : (s.setInst v).inst = v := rfl
@[simp] theorem State.setInst_par (v : Inst) : (s.setInst v).par = s.par := rfl
@[simp] theorem State.setInst_st (v : Inst) : (s.setInst v).st = s.st := rfl
@[simp] theorem State.setInst_regs (v : Inst) : (s.setInst v).regs = s.regs := rfl
@[simp] theorem State.setInst_hid (v : Inst) : (s.setInst v).hid = s.hid := rfl
@[simp] theorem State.setInst_initialised (v : Inst) : (s.setInst v).initialised = s.initialised := rfl
@[simp] theorem State.setInst_initExited (v : Inst) : (s.setInst v).initExited = s.initExited := rfl
@[simp] theorem State.setInst_faulted (v : Inst) : (s.setInst v).faulted = s.faulted := rfl
@[simp] theorem State.setInst_engine (v : Inst) : (s.setInst v).engine = s.engine := rfl
@[simp] theorem State.setInst_disp (v : Inst) : (s.setInst v).disp = s.disp := rfl
@[simp] theorem State.setInst_mem (v : Inst) : (s.setInst v).mem = s.mem := rfl
@[simp] theorem State.setInst_callerMem (v : Inst) : (s.setInst v).callerMem = s.callerMem := rfl
@[simp] theorem State.setInst_agenda (v : Inst) : (s.setInst v).agenda = s.agenda := rfl
@[simp] theorem State.setInst_result (v : Inst) : (s.setInst v).result = s.result := rfl
@[simp] theorem State.setInst_deviceWords (v : Inst) : (s.setInst v).deviceWords = s.deviceWords := rfl
@[simp] theorem State.setInst_draws (v : Inst) : (s.setInst v).draws = s.draws := rfl

@[simp] theorem State.setPar_cfg (v : Params) : (s.setPar v).cfg = s.cfg := rfl
@[simp] theorem State.setPar_inst (v : Params) : (s.setPar v).inst = s.inst := rfl
@[simp] theorem State.setPar_par (v : Params) : (s.setPar v).par = v := rfl
@[simp] theorem State.setPar_st (v : Params) : (s.setPar v).st = s.st := rfl
@[simp] theorem State.setPar_regs (v : Params) : (s.setPar v).regs = s.regs := rfl
@[simp] theorem State.setPar_hid (v : Params) : (s.setPar v).hid = s.hid := rfl
@[simp] theorem State.setPar_initialised (v : Params) : (s.setPar v).initialised = s.initialised := rfl
@[simp] theorem State.setPar_initExited (v : Params) : (s.setPar v).initExited = s.initExited := rfl
@[simp] theorem State.setPar_faulted (v : Params) : (s.setPar v).faulted = s.faulted := rfl
@[simp] theorem State.setPar_engine (v : Params) : (s.setPar v).engine = s.engine := rfl
@[simp] theorem State.setPar_disp (v : Params) : (s.setPar v).disp = s.disp := rfl
@[simp] theorem State.setPar_mem (v : Params) : (s.setPar v).mem = s.mem := rfl
@[simp] theorem State.setPar_callerMem (v : Params) : (s.setPar v).callerMem = s.callerMem := rfl
@[simp] theorem State.setPar_agenda (v : Params) : (s.setPar v).agenda = s.agenda := rfl
@[simp] theorem State.setPar_result (v : Params) : (s.setPar v).result = s.result := rfl
@[simp] theorem State.setPar_deviceWords (v : Params) : (s.setPar v).deviceWords = s.deviceWords := rfl
@[simp] theorem State.setPar_draws (v : Params) : (s.setPar v).draws = s.draws := rfl

@[simp] theorem State.setSt_cfg (v : Status) : (s.setSt v).cfg = s.cfg := rfl
@[simp] theorem State.setSt_inst (v : Status) : (s.setSt v).inst = s.inst := rfl
@[simp] theorem State.setSt_par (v : Status) : (s.setSt v).par = s.par := rfl
@[simp] theorem State.setSt_st (v : Status) : (s.setSt v).st = v := rfl
@[simp] theorem State.setSt_regs (v : Status) : (s.setSt v).regs = s.regs := rfl
@[simp] theorem State.setSt_hid (v : Status) : (s.setSt v).hid = s.hid := rfl
@[simp] theorem State.setSt_initialised (v : Status) : (s.setSt v).initialised = s.initialised := rfl
@[simp] theorem State.setSt_initExited (v : Status) : (s.setSt v).initExited = s.initExited := rfl
@[simp] theorem State.setSt_faulted (v : Status) : (s.setSt v).faulted = s.faulted := rfl
@[simp] theorem State.setSt_engine (v : Status) : (s.setSt v).engine = s.engine := rfl
@[simp] theorem State.setSt_disp (v : Status) : (s.setSt v).disp = s.disp := rfl
@[simp] theorem State.setSt_mem (v : Status) : (s.setSt v).mem = s.mem := rfl
@[simp] theorem State.setSt_callerMem (v : Status) : (s.setSt v).callerMem = s.callerMem := rfl
@[simp] theorem State.setSt_agenda (v : Status) : (s.setSt v).agenda = s.agenda := rfl
@[simp] theorem State.setSt_result (v : Status) : (s.setSt v).result = s.result := rfl
@[simp] theorem State.setSt_deviceWords (v : Status) : (s.setSt v).deviceWords = s.deviceWords := rfl
@[simp] theorem State.setSt_draws (v : Status) : (s.setSt v).draws = s.draws := rfl

@[simp] theorem State.setRegs_cfg (v : Regs) : (s.setRegs v).cfg = s.cfg := rfl
@[simp] theorem State.setRegs_inst (v : Regs) : (s.setRegs v).inst = s.inst := rfl
@[simp] theorem State.setRegs_par (v : Regs) : (s.setRegs v).par = s.par := rfl
@[simp] theorem State.setRegs_st (v : Regs) : (s.setRegs v).st = s.st := rfl
@[simp] theorem State.setRegs_regs (v : Regs) : (s.setRegs v).regs = v := rfl
@[simp] theorem State.setRegs_hid (v : Regs) : (s.setRegs v).hid = s.hid := rfl
@[simp] theorem State.setRegs_initialised (v : Regs) : (s.setRegs v).initialised = s.initialised := rfl
@[simp] theorem State.setRegs_initExited (v : Regs) : (s.setRegs v).initExited = s.initExited := rfl
@[simp] theorem State.setRegs_faulted (v : Regs) : (s.setRegs v).faulted = s.faulted := rfl
@[simp] theorem State.setRegs_engine (v : Regs) : (s.setRegs v).engine = s.engine := rfl
@[simp] theorem State.setRegs_disp (v : Regs) : (s.setRegs v).disp = s.disp := rfl
@[simp] theorem State.setRegs_mem (v : Regs) : (s.setRegs v).mem = s.mem := rfl
@[simp] theorem State.setRegs_callerMem (v : Regs) : (s.setRegs v).callerMem = s.callerMem := rfl
@[simp] theorem State.setRegs_agenda (v : Regs) : (s.setRegs v).agenda = s.agenda := rfl
@[simp] theorem State.setRegs_result (v : Regs) : (s.setRegs v).result = s.result := rfl
@[simp] theorem State.setRegs_deviceWords (v : Regs) : (s.setRegs v).deviceWords = s.deviceWords := rfl
@[simp] theorem State.setRegs_draws (v : Regs) : (s.setRegs v).draws = s.draws := rfl

@[simp] theorem State.setHid_cfg (v : Hidden) : (s.setHid v).cfg = s.cfg := rfl
@[simp] theorem State.setHid_inst (v : Hidden) : (s.setHid v).inst = s.inst := rfl
@[simp] theorem State.setHid_par (v : Hidden) : (s.setHid v).par = s.par := rfl
@[simp] theorem State.setHid_st (v : Hidden) : (s.setHid v).st = s.st := rfl
@[simp] theorem State.setHid_regs (v : Hidden) : (s.setHid v).regs = s.regs := rfl
@[simp] theorem State.setHid_hid (v : Hidden) : (s.setHid v).hid = v := rfl
@[simp] theorem State.setHid_initialised (v : Hidden) : (s.setHid v).initialised = s.initialised := rfl
@[simp] theorem State.setHid_initExited (v : Hidden) : (s.setHid v).initExited = s.initExited := rfl
@[simp] theorem State.setHid_faulted (v : Hidden) : (s.setHid v).faulted = s.faulted := rfl
@[simp] theorem State.setHid_engine (v : Hidden) : (s.setHid v).engine = s.engine := rfl
@[simp] theorem State.setHid_disp (v : Hidden) : (s.setHid v).disp = s.disp := rfl
@[simp] theorem State.setHid_mem (v : Hidden) : (s.setHid v).mem = s.mem := rfl
@[simp] theorem State.setHid_callerMem (v : Hidden) : (s.setHid v).callerMem = s.callerMem := rfl
@[simp] theorem State.setHid_agenda (v : Hidden) : (s.setHid v).agenda = s.agenda := rfl
@[simp] theorem State.setHid_result (v : Hidden) : (s.setHid v).result = s.result := rfl
@[simp] theorem State.setHid_deviceWords (v : Hidden) : (s.setHid v).deviceWords = s.deviceWords := rfl
@[simp] theorem State.setHid_draws (v : Hidden) : (s.setHid v).draws = s.draws := rfl

@[simp] theorem State.setInitialised_cfg (v : Bool) : (s.setInitialised v).cfg = s.cfg := rfl
@[simp] theorem State.setInitialised_inst (v : Bool) : (s.setInitialised v).inst = s.inst := rfl
@[simp] theorem State.setInitialised_par (v : Bool) : (s.setInitialised v).par = s.par := rfl
@[simp] theorem State.setInitialised_st (v : Bool) : (s.setInitialised v).st = s.st := rfl
@[simp] theorem State.setInitialised_regs (v : Bool) : (s.setInitialised v).regs = s.regs := rfl
@[simp] theorem State.setInitialised_hid (v : Bool) : (s.setInitialised v).hid = s.hid := rfl
@[simp] theorem State.setInitialised_initialised (v : Bool) : (s.setInitialised v).initialised = v := rfl
@[simp] theorem State.setInitialised_initExited (v : Bool) : (s.setInitialised v).initExited = s.initExited := rfl
@[simp] theorem State.setInitialised_faulted (v : Bool) : (s.setInitialised v).faulted = s.faulted := rfl
@[simp] theorem State.setInitialised_engine (v : Bool) : (s.setInitialised v).engine = s.engine := rfl
@[simp] theorem State.setInitialised_disp (v : Bool) : (s.setInitialised v).disp = s.disp := rfl
@[simp] theorem State.setInitialised_mem (v : Bool) : (s.setInitialised v).mem = s.mem := rfl
@[simp] theorem State.setInitialised_callerMem (v : Bool) : (s.setInitialised v).callerMem = s.callerMem := rfl
@[simp] theorem State.setInitialised_agenda (v : Bool) : (s.setInitialised v).agenda = s.agenda := rfl
@[simp] theorem State.setInitialised_result (v : Bool) : (s.setInitialised v).result = s.result := rfl
@[simp] theorem State.setInitialised_deviceWords (v : Bool) : (s.setInitialised v).deviceWords = s.deviceWords := rfl
@[simp] theorem State.setInitialised_draws (v : Bool) : (s.setInitialised v).draws = s.draws := rfl

@[simp] theorem State.setInitExited_cfg (v : Bool) : (s.setInitExited v).cfg = s.cfg := rfl
@[simp] theorem State.setInitExited_inst (v : Bool) : (s.setInitExited v).inst = s.inst := rfl
@[simp] theorem State.setInitExited_par (v : Bool) : (s.setInitExited v).par = s.par := rfl
@[simp] theorem State.setInitExited_st (v : Bool) : (s.setInitExited v).st = s.st := rfl
@[simp] theorem State.setInitExited_regs (v : Bool) : (s.setInitExited v).regs = s.regs := rfl
@[simp] theorem State.setInitExited_hid (v : Bool) : (s.setInitExited v).hid = s.hid := rfl
@[simp] theorem State.setInitExited_initialised (v : Bool) : (s.setInitExited v).initialised = s.initialised := rfl
@[simp] theorem State.setInitExited_initExited (v : Bool) : (s.setInitExited v).initExited = v := rfl
@[simp] theorem State.setInitExited_faulted (v : Bool) : (s.setInitExited v).faulted = s.faulted := rfl
@[simp] theorem State.setInitExited_engine (v : Bool) : (s.setInitExited v).engine = s.engine := rfl
@[simp] theorem State.setInitExited_disp (v : Bool) : (s.setInitExited v).disp = s.disp := rfl
@[simp] theorem State.setInitExited_mem (v : Bool) : (s.setInitExited v).mem = s.mem := rfl
@[simp] theorem State.setInitExited_callerMem (v : Bool) : (s.setInitExited v).callerMem = s.callerMem := rfl
@[simp] theorem State.setInitExited_agenda (v : Bool) : (s.setInitExited v).agenda = s.agenda := rfl
@[simp] theorem State.setInitExited_result (v : Bool) : (s.setInitExited v).result = s.result := rfl
@[simp] theorem State.setInitExited_deviceWords (v : Bool) : (s.setInitExited v).deviceWords = s.deviceWords := rfl
@[simp] theorem State.setInitExited_draws (v : Bool) : (s.setInitExited v).draws = s.draws := rfl

@[simp] theorem State.setFaulted_cfg (v : Option AssertReason) : (s.setFaulted v).cfg = s.cfg := rfl
@[simp] theorem State.setFaulted_inst (v : Option AssertReason) : (s.setFaulted v).inst = s.inst := rfl
@[simp] theorem State.setFaulted_par (v : Option AssertReason) : (s.setFaulted v).par = s.par := rfl
@[simp] theorem State.setFaulted_st (v : Option AssertReason) : (s.setFaulted v).st = s.st := rfl
@[simp] theorem State.setFaulted_regs (v : Option AssertReason) : (s.setFaulted v).regs = s.regs := rfl
@[simp] theorem State.setFaulted_hid (v : Option AssertReason) : (s.setFaulted v).hid = s.hid := rfl
@[simp] theorem State.setFaulted_initialised (v : Option AssertReason) : (s.setFaulted v).initialised = s.initialised := rfl
@[simp] theorem State.setFaulted_initExited (v : Option AssertReason) : (s.setFaulted v).initExited = s.initExited := rfl
@[simp] theorem State.setFaulted_faulted (v : Option AssertReason) : (s.setFaulted v).faulted = v := rfl
@[simp] theorem State.setFaulted_engine (v : Option AssertReason) : (s.setFaulted v).engine = s.engine := rfl
@[simp] theorem State.setFaulted_disp (v : Option AssertReason) : (s.setFaulted v).disp = s.disp := rfl
@[simp] theorem State.setFaulted_mem (v : Option AssertReason) : (s.setFaulted v).mem = s.mem := rfl
@[simp] theorem State.setFaulted_callerMem (v : Option AssertReason) : (s.setFaulted v).callerMem = s.callerMem := rfl
@[simp] theorem State.setFaulted_agenda (v : Option AssertReason) : (s.setFaulted v).agenda = s.agenda := rfl
@[simp] theorem State.setFaulted_result (v : Option AssertReason) : (s.setFaulted v).result = s.result := rfl
@[simp] theorem State.setFaulted_deviceWords (v : Option AssertReason) : (s.setFaulted v).deviceWords = s.deviceWords := rfl
@[simp] theorem State.setFaulted_draws (v : Option AssertReason) : (s.setFaulted v).draws = s.draws := rfl

@[simp] theorem State.setEngine_cfg (v : Option Ctx) : (s.setEngine v).cfg = s.cfg := rfl
@[simp] theorem State.setEngine_inst (v : Option Ctx) : (s.setEngine v).inst = s.inst := rfl
@[simp] theorem State.setEngine_par (v : Option Ctx) : (s.setEngine v).par = s.par := rfl
@[simp] theorem State.setEngine_st (v : Option Ctx) : (s.setEngine v).st = s.st := rfl
@[simp] theorem State.setEngine_regs (v : Option Ctx) : (s.setEngine v).regs = s.regs := rfl
@[simp] theorem State.setEngine_hid (v : Option Ctx) : (s.setEngine v).hid = s.hid := rfl
@[simp] theorem State.setEngine_initialised (v : Option Ctx) : (s.setEngine v).initialised = s.initialised := rfl
@[simp] theorem State.setEngine_initExited (v : Option Ctx) : (s.setEngine v).initExited = s.initExited := rfl
@[simp] theorem State.setEngine_faulted (v : Option Ctx) : (s.setEngine v).faulted = s.faulted := rfl
@[simp] theorem State.setEngine_engine (v : Option Ctx) : (s.setEngine v).engine = v := rfl
@[simp] theorem State.setEngine_disp (v : Option Ctx) : (s.setEngine v).disp = s.disp := rfl
@[simp] theorem State.setEngine_mem (v : Option Ctx) : (s.setEngine v).mem = s.mem := rfl
@[simp] theorem State.setEngine_callerMem (v : Option Ctx) : (s.setEngine v).callerMem = s.callerMem := rfl
@[simp] theorem State.setEngine_agenda (v : Option Ctx) : (s.setEngine v).agenda = s.agenda := rfl
@[simp] theorem State.setEngine_result (v : Option Ctx) : (s.setEngine v).result = s.result := rfl
@[simp] theorem State.setEngine_deviceWords (v : Option Ctx) : (s.setEngine v).deviceWords = s.deviceWords := rfl
@[simp] theorem State.setEngine_draws (v : Option Ctx) : (s.setEngine v).draws = s.draws := rfl

@[simp] theorem State.setDisp_cfg (v : Option Ctx) : (s.setDisp v).cfg = s.cfg := rfl
@[simp] theorem State.setDisp_inst (v : Option Ctx) : (s.setDisp v).inst = s.inst := rfl
@[simp] theorem State.setDisp_par (v : Option Ctx) : (s.setDisp v).par = s.par := rfl
@[simp] theorem State.setDisp_st (v : Option Ctx) : (s.setDisp v).st = s.st := rfl
@[simp] theorem State.setDisp_regs (v : Option Ctx) : (s.setDisp v).regs = s.regs := rfl
@[simp] theorem State.setDisp_hid (v : Option Ctx) : (s.setDisp v).hid = s.hid := rfl
@[simp] theorem State.setDisp_initialised (v : Option Ctx) : (s.setDisp v).initialised = s.initialised := rfl
@[simp] theorem State.setDisp_initExited (v : Option Ctx) : (s.setDisp v).initExited = s.initExited := rfl
@[simp] theorem State.setDisp_faulted (v : Option Ctx) : (s.setDisp v).faulted = s.faulted := rfl
@[simp] theorem State.setDisp_engine (v : Option Ctx) : (s.setDisp v).engine = s.engine := rfl
@[simp] theorem State.setDisp_disp (v : Option Ctx) : (s.setDisp v).disp = v := rfl
@[simp] theorem State.setDisp_mem (v : Option Ctx) : (s.setDisp v).mem = s.mem := rfl
@[simp] theorem State.setDisp_callerMem (v : Option Ctx) : (s.setDisp v).callerMem = s.callerMem := rfl
@[simp] theorem State.setDisp_agenda (v : Option Ctx) : (s.setDisp v).agenda = s.agenda := rfl
@[simp] theorem State.setDisp_result (v : Option Ctx) : (s.setDisp v).result = s.result := rfl
@[simp] theorem State.setDisp_deviceWords (v : Option Ctx) : (s.setDisp v).deviceWords = s.deviceWords := rfl
@[simp] theorem State.setDisp_draws (v : Option Ctx) : (s.setDisp v).draws = s.draws := rfl

@[simp] theorem State.setMem_cfg (v : Memory) : (s.setMem v).cfg = s.cfg := rfl
@[simp] theorem State.setMem_inst (v : Memory) : (s.setMem v).inst = s.inst := rfl
@[simp] theorem State.setMem_par (v : Memory) : (s.setMem v).par = s.par := rfl
@[simp] theorem State.setMem_st (v : Memory) : (s.setMem v).st = s.st := rfl
@[simp] theorem State.setMem_regs (v : Memory) : (s.setMem v).regs = s.regs := rfl
@[simp] theorem State.setMem_hid (v : Memory) : (s.setMem v).hid = s.hid := rfl
@[simp] theorem State.setMem_initialised (v : Memory) : (s.setMem v).initialised = s.initialised := rfl
@[simp] theorem State.setMem_initExited (v : Memory) : (s.setMem v).initExited = s.initExited := rfl
@[simp] theorem State.setMem_faulted (v : Memory) : (s.setMem v).faulted = s.faulted := rfl
@[simp] theorem State.setMem_engine (v : Memory) : (s.setMem v).engine = s.engine := rfl
@[simp] theorem State.setMem_disp (v : Memory) : (s.setMem v).disp = s.disp := rfl
@[simp] theorem State.setMem_mem (v : Memory) : (s.setMem v).mem = v := rfl
@[simp] theorem State.setMem_callerMem (v : Memory) : (s.setMem v).callerMem = s.callerMem := rfl
@[simp] theorem State.setMem_agenda (v : Memory) : (s.setMem v).agenda = s.agenda := rfl
@[simp] theorem State.setMem_result (v : Memory) : (s.setMem v).result = s.result := rfl
@[simp] theorem State.setMem_deviceWords (v : Memory) : (s.setMem v).deviceWords = s.deviceWords := rfl
@[simp] theorem State.setMem_draws (v : Memory) : (s.setMem v).draws = s.draws := rfl

@[simp] theorem State.setAgenda_cfg (v : List Turn) : (s.setAgenda v).cfg = s.cfg := rfl
@[simp] theorem State.setAgenda_inst (v : List Turn) : (s.setAgenda v).inst = s.inst := rfl
@[simp] theorem State.setAgenda_par (v : List Turn) : (s.setAgenda v).par = s.par := rfl
@[simp] theorem State.setAgenda_st (v : List Turn) : (s.setAgenda v).st = s.st := rfl
@[simp] theorem State.setAgenda_regs (v : List Turn) : (s.setAgenda v).regs = s.regs := rfl
@[simp] theorem State.setAgenda_hid (v : List Turn) : (s.setAgenda v).hid = s.hid := rfl
@[simp] theorem State.setAgenda_initialised (v : List Turn) : (s.setAgenda v).initialised = s.initialised := rfl
@[simp] theorem State.setAgenda_initExited (v : List Turn) : (s.setAgenda v).initExited = s.initExited := rfl
@[simp] theorem State.setAgenda_faulted (v : List Turn) : (s.setAgenda v).faulted = s.faulted := rfl
@[simp] theorem State.setAgenda_engine (v : List Turn) : (s.setAgenda v).engine = s.engine := rfl
@[simp] theorem State.setAgenda_disp (v : List Turn) : (s.setAgenda v).disp = s.disp := rfl
@[simp] theorem State.setAgenda_mem (v : List Turn) : (s.setAgenda v).mem = s.mem := rfl
@[simp] theorem State.setAgenda_callerMem (v : List Turn) : (s.setAgenda v).callerMem = s.callerMem := rfl
@[simp] theorem State.setAgenda_agenda (v : List Turn) : (s.setAgenda v).agenda = v := rfl
@[simp] theorem State.setAgenda_result (v : List Turn) : (s.setAgenda v).result = s.result := rfl
@[simp] theorem State.setAgenda_deviceWords (v : List Turn) : (s.setAgenda v).deviceWords = s.deviceWords := rfl
@[simp] theorem State.setAgenda_draws (v : List Turn) : (s.setAgenda v).draws = s.draws := rfl

@[simp] theorem State.setResult_cfg (v : Option Ret) : (s.setResult v).cfg = s.cfg := rfl
@[simp] theorem State.setResult_inst (v : Option Ret) : (s.setResult v).inst = s.inst := rfl
@[simp] theorem State.setResult_par (v : Option Ret) : (s.setResult v).par = s.par := rfl
@[simp] theorem State.setResult_st (v : Option Ret) : (s.setResult v).st = s.st := rfl
@[simp] theorem State.setResult_regs (v : Option Ret) : (s.setResult v).regs = s.regs := rfl
@[simp] theorem State.setResult_hid (v : Option Ret) : (s.setResult v).hid = s.hid := rfl
@[simp] theorem State.setResult_initialised (v : Option Ret) : (s.setResult v).initialised = s.initialised := rfl
@[simp] theorem State.setResult_initExited (v : Option Ret) : (s.setResult v).initExited = s.initExited := rfl
@[simp] theorem State.setResult_faulted (v : Option Ret) : (s.setResult v).faulted = s.faulted := rfl
@[simp] theorem State.setResult_engine (v : Option Ret) : (s.setResult v).engine = s.engine := rfl
@[simp] theorem State.setResult_disp (v : Option Ret) : (s.setResult v).disp = s.disp := rfl
@[simp] theorem State.setResult_mem (v : Option Ret) : (s.setResult v).mem = s.mem := rfl
@[simp] theorem State.setResult_callerMem (v : Option Ret) : (s.setResult v).callerMem = s.callerMem := rfl
@[simp] theorem State.setResult_agenda (v : Option Ret) : (s.setResult v).agenda = s.agenda := rfl
@[simp] theorem State.setResult_result (v : Option Ret) : (s.setResult v).result = v := rfl
@[simp] theorem State.setResult_deviceWords (v : Option Ret) : (s.setResult v).deviceWords = s.deviceWords := rfl
@[simp] theorem State.setResult_draws (v : Option Ret) : (s.setResult v).draws = s.draws := rfl

@[simp] theorem State.setDeviceWords_cfg (v : List Word) : (s.setDeviceWords v).cfg = s.cfg := rfl
@[simp] theorem State.setDeviceWords_inst (v : List Word) : (s.setDeviceWords v).inst = s.inst := rfl
@[simp] theorem State.setDeviceWords_par (v : List Word) : (s.setDeviceWords v).par = s.par := rfl
@[simp] theorem State.setDeviceWords_st (v : List Word) : (s.setDeviceWords v).st = s.st := rfl
@[simp] theorem State.setDeviceWords_regs (v : List Word) : (s.setDeviceWords v).regs = s.regs := rfl
@[simp] theorem State.setDeviceWords_hid (v : List Word) : (s.setDeviceWords v).hid = s.hid := rfl
@[simp] theorem State.setDeviceWords_initialised (v : List Word) : (s.setDeviceWords v).initialised = s.initialised := rfl
@[simp] theorem State.setDeviceWords_initExited (v : List Word) : (s.setDeviceWords v).initExited = s.initExited := rfl
@[simp] theorem State.setDeviceWords_faulted (v : List Word) : (s.setDeviceWords v).faulted = s.faulted := rfl
@[simp] theorem State.setDeviceWords_engine (v : List Word) : (s.setDeviceWords v).engine = s.engine := rfl
@[simp] theorem State.setDeviceWords_disp (v : List Word) : (s.setDeviceWords v).disp = s.disp := rfl
@[simp] theorem State.setDeviceWords_mem (v : List Word) : (s.setDeviceWords v).mem = s.mem := rfl
@[simp] theorem State.setDeviceWords_callerMem (v : List Word) : (s.setDeviceWords v).callerMem = s.callerMem := rfl
@[simp] theorem State.setDeviceWords_agenda (v : List Word) : (s.setDeviceWords v).agenda = s.agenda := rfl
@[simp] theorem State.setDeviceWords_result (v : List Word) : (s.setDeviceWords v).result = s.result := rfl
@[simp] theorem State.setDeviceWords_deviceWords (v : List Word) : (s.setDeviceWords v).deviceWords = v := rfl
@[simp] theorem State.setDeviceWords_draws (v : List Word) : (s.setDeviceWords v).draws = s.draws := rfl

@[simp] theorem State.setDraws_cfg (v : Nat) : (s.setDraws v).cfg = s.cfg := rfl
@[simp] theorem State.setDraws_inst (v : Nat) : (s.setDraws v).inst = s.inst := rfl
@[simp] theorem State.setDraws_par (v : Nat) : (s.setDraws v).par = s.par := rfl
@[simp] theorem State.setDraws_st (v : Nat) : (s.setDraws v).st = s.st := rfl
@[simp] theorem State.setDraws_regs (v : Nat) : (s.setDraws v).regs = s.regs := rfl
@[simp] theorem State.setDraws_hid (v : Nat) : (s.setDraws v).hid = s.hid := rfl
@[simp] theorem State.setDraws_initialised (v : Nat) : (s.setDraws v).initialised = s.initialised := rfl
@[simp] theorem State.setDraws_initExited (v : Nat) : (s.setDraws v).initExited = s.initExited := rfl
@[simp] theorem State.setDraws_faulted (v : Nat) : (s.setDraws v).faulted = s.faulted := rfl
@[simp] theorem State.setDraws_engine (v : Nat) : (s.setDraws v).engine = s.engine := rfl
@[simp] theorem State.setDraws_disp (v : Nat) : (s.setDraws v).disp = s.disp := rfl
@[simp] theorem State.setDraws_mem (v : Nat) : (s.setDraws v).mem = s.mem := rfl
@[simp] theorem State.setDraws_callerMem (v : Nat) : (s.setDraws v).callerMem = s.callerMem := rfl
@[simp] theorem State.setDraws_agenda (v : Nat) : (s.setDraws v).agenda = s.agenda := rfl
@[simp] theorem State.setDraws_result (v : Nat) : (s.setDraws v).result = s.result := rfl
@[simp] theorem State.setDraws_deviceWords (v : Nat) : (s.setDraws v).deviceWords = s.deviceWords := rfl
@[simp] theorem State.setDraws_draws (v : Nat) : (s.setDraws v).draws = v := rfl

end Sys2Proof.Machine
end

