-- ==== Sys2Proof/Laws/Invariant.lean ====
section
/-! SUPPORT. The invariant, operation by operation: what each shared operation does to the data the invariant speaks of, and
that a delivery stays a delivery. -/

namespace Sys2Proof.Machine

/-- The invariant but for the ticks and DISPATCHER's position: it speaks of the registers, the hidden state, caller memory, the
configuration and the two initialization flags only. -/
structure DataInv (s : State) : Prop where
  cmdx_reserved : s.regs.cmdx &&& 0xC0#8 = 0#8
  isr_reserved : s.regs.isr &&& 0xF0#8 = 0#8
  sbisr_reserved : s.regs.sbisr &&& 0xE0#8 = 0#8
  mbisr_reserved : s.regs.mbisr &&& 0xE0#8 = 0#8
  imr_reserved : s.regs.imr &&& 0xF0#8 = 0#8
  sbimr_reserved : s.regs.sbimr &&& 0xE0#8 = 0#8
  mbimr_reserved : s.regs.mbimr &&& 0xE0#8 = 0#8
  mem_canonical : Memory.wf s.mem = true
  wfifo_fits : s.hid.wfifo.length ≤ fifoDepth s.cfg
  rfifo_fits : s.hid.rfifo.length ≤ fifoDepth s.cfg
  command_known : s.hid.cmdPhase ≠ .none → respClass s.hid.curIndex ≠ none
  answer_due : s.hid.cmdPhase = .awaitingResponse → respClass s.hid.curIndex ≠ some .none
  init_exited : s.initialised = true → s.initExited = true

theorem Inv.data {s : State} (h : Inv s) : DataInv s := by
  cases h
  constructor <;> assumption

/-- The part of the invariant that speaks of ticks. -/
structure TicksInv (s : State) : Prop where
  start_tick_fits : s.st.startTick < 2 ^ s.cfg.tickBits
  timeout_ticks_fit : s.st.timeoutTicks < 2 ^ s.cfg.tickBits
  planned_ticks_fit : (plannedSteps s.engine).all (Micro.ticksFit s.cfg) = true

theorem Inv.ticks {s : State} (h : Inv s) : TicksInv s := by
  cases h
  constructor <;> assumption

theorem DataInv.inv {s : State} (h : DataInv s) (ht : TicksInv s) (hd : ∀ c, s.disp = some c → c.isDelivery = true) :
    Inv s := by
  cases h
  cases ht
  constructor <;> assumption

/-- The tick part does not look at the other fields. -/
theorem TicksInv.congr {s t : State} (h : TicksInv s) (h1 : t.st = s.st) (h2 : t.cfg = s.cfg) (h3 : t.engine = s.engine) :
    TicksInv t := by
  cases h
  constructor <;> simp only [h1, h2, h3] <;> assumption

/-- The data part does not look at the other fields. -/
theorem DataInv.congr {s t : State} (h : DataInv s) (h1 : t.regs = s.regs) (h2 : t.hid = s.hid) (h3 : t.mem = s.mem)
    (h4 : t.cfg = s.cfg) (h5 : t.initialised = s.initialised) (h6 : t.initExited = s.initExited) : DataInv t := by
  cases h
  constructor <;> simp only [h1, h2, h3, h4, h5, h6] <;> assumption

/-! ### Bits -/

theorem and_masked (a b : Byte) : a &&& (b &&& ~~~a) = 0#8 := by
  ext i hi
  simp only [BitVec.getElem_and, BitVec.getElem_not, BitVec.getElem_zero]
  cases a[i] <;> simp

theorem or_reserved {a m k : Byte} (h : a &&& k = 0#8) (hm : m &&& k = 0#8) : (a ||| m) &&& k = 0#8 := by
  rw [show (a ||| m) &&& k = (a &&& k) ||| (m &&& k) by ext i; simp [Bool.and_or_distrib_right], h, hm]
  decide

theorem clear_reserved {a k : Byte} (v : Byte) (h : a &&& k = 0#8) : (a &&& ~~~v) &&& k = 0#8 := by
  rw [BitVec.and_assoc, BitVec.and_comm (~~~v), ← BitVec.and_assoc, h]
  simp

/-! ### Writes and reads -/

theorem raiseUof_data {s : State} (h : DataInv s) : DataInv (raiseUof s) := by
  cases h
  constructor <;> simp only [raiseUof, raiseBlock, State.setRegs] <;> first
    | assumption
    | (apply or_reserved <;> first | assumption | decide)

theorem softReset_data {s : State} (h : DataInv s) : DataInv (softReset s) := by
  cases h
  constructor <;> simp only [softReset, State.setRegs, State.setHid] <;> first
    | assumption
    | decide
    | exact Nat.zero_le _

theorem writeCtrl_data {s : State} (v : Byte) (h : DataInv s) : DataInv (writeCtrl v s) := by
  unfold writeCtrl
  split
  · exact softReset_data h
  · cases h
    constructor <;> simp only [State.setRegs, State.setHid] <;> first
      | assumption
      | (split <;> first | exact Nat.zero_le _ | assumption)

theorem writeWdr_data {s : State} (v : Word) (h : DataInv s) : DataInv (writeWdr v s) := by
  unfold writeWdr
  split
  · next hl =>
    cases h
    constructor <;> simp only [State.setHid] <;> first
      | assumption
      | (simp only [List.length_append, List.length_singleton]; omega)
  · exact raiseUof_data h

theorem writeArg4_data {s t : State} {v : Byte} (h : DataInv s) (hw : writeArg4 v s = .ok t) : DataInv t := by
  unfold writeArg4 at hw
  split at hw
  · cases hw
  · split at hw
    · cases hw
    · next hk =>
      cases hw
      cases h
      constructor <;> simp only [State.setRegs, State.setHid] <;> first
        | assumption
        | (intro _; exact hk)
        | (intro hc; cases hc)

/-- A register write keeps the data part. -/
theorem writeReg_data {s t : State} {r : Reg} {v : Word} (h : DataInv s) (hw : writeReg r v s = .ok t) : DataInv t := by
  cases r <;> simp only [writeReg] at hw
  case arg4 => exact writeArg4_data h hw
  all_goals cases hw
  case wdr => exact writeWdr_data v h
  case ctrl => exact writeCtrl_data _ h
  all_goals first
    | exact h
    | (cases h; constructor <;> simp only [State.setRegs] <;> first
        | assumption
        | (apply clear_reserved; assumption)
        | (simp only [commandTierBits, blockTierBits, BitVec.and_assoc]; simp))

/-- What a register write leaves alone, whatever the register. -/
theorem writeReg_frame {s t : State} {r : Reg} {v : Word} (hw : writeReg r v s = .ok t) :
    t = { s with regs := t.regs, hid := t.hid } := by
  cases r <;> simp only [writeReg] at hw
  case arg4 =>
    unfold writeArg4 at hw
    split at hw
    · cases hw
    · split at hw
      · cases hw
      · cases hw; rfl
  all_goals cases hw
  case wdr => unfold writeWdr; split <;> rfl
  case ctrl => unfold writeCtrl; split <;> rfl
  all_goals rfl

theorem readReg_data {s : State} (r : Reg) (h : DataInv s) : DataInv (readReg r s).2 := by
  cases r <;> simp only [readReg]
  case sr => exact h.congr rfl rfl rfl rfl rfl rfl
  case wdr => exact h.congr rfl rfl rfl rfl rfl rfl
  case rdr =>
    unfold readRdr
    split
    · next w rest hr =>
      have := h.rfifo_fits
      rw [hr] at this
      simp only [List.length_cons] at this
      cases h
      constructor <;> simp only [State.setHid] <;> first
        | assumption
        | omega
    · exact raiseUof_data (h.congr rfl rfl rfl rfl rfl rfl)
  all_goals exact h

/-- What a register read leaves alone. -/
theorem readReg_frame (r : Reg) (s : State) :
    (readReg r s).2 = { s with regs := (readReg r s).2.regs, hid := (readReg r s).2.hid, draws := (readReg r s).2.draws } := by
  cases r <;> simp only [readReg]
  case rdr => unfold readRdr; split <;> rfl
  all_goals rfl

/-! ### Steps -/

/-- A step of a context keeps the data part and DISPATCHER's position. -/
theorem microStep_data {s t : State} {m : Micro} {l l' : Locals} {more : List Micro} (h : DataInv s)
    (hm : microStep m l s = .next more l' t) : DataInv t ∧ t.disp = s.disp := by
  have rd : ∀ r, DataInv (readReg r s).2 ∧ (readReg r s).2.disp = s.disp := fun r =>
    ⟨readReg_data r h, by rw [readReg_frame]⟩
  cases m <;> simp only [microStep, readByte] at hm
  case write r v =>
    cases hw : writeReg r v s with
    | ok u =>
      rw [hw] at hm
      cases hm
      exact ⟨writeReg_data h hw, by rw [writeReg_frame hw]⟩
    | error e => rw [hw] at hm; cases hm
  case fill buf i =>
    cases hw : writeReg .wdr (bufWord s.cfg.littleEndian s.mem buf i) s with
    | ok u =>
      rw [hw] at hm
      cases hm
      exact ⟨writeReg_data h hw, by rw [writeReg_frame hw]⟩
    | error e => rw [hw] at hm; cases hm
  case drain dest i =>
    cases dest <;> simp only at hm <;> cases hm
    · refine ⟨?_, (rd .rdr).2⟩
      have := (rd .rdr).1
      cases this
      constructor <;> simp only [State.setMem] <;> first
        | assumption
        | (apply wf_setBufWord; assumption)
    · exact rd .rdr
  case readMajor => cases hm; exact ⟨(rd .mjvr).1.congr rfl rfl rfl rfl rfl rfl, (rd .mjvr).2⟩
  case readMinor => cases hm; exact ⟨(rd .mivr).1.congr rfl rfl rfl rfl rfl rfl, (rd .mivr).2⟩
  case setInst => cases hm; exact ⟨h.congr rfl rfl rfl rfl rfl rfl, rfl⟩
  case setSt => cases hm; exact ⟨h.congr rfl rfl rfl rfl rfl rfl, rfl⟩
  case setInitialised =>
    cases hm
    refine ⟨?_, rfl⟩
    cases h
    constructor <;> simp only [State.setInitialised, State.setInitExited] <;> first
      | assumption
      | (intro _; trivial)
  all_goals cases hm; exact rd _

/-! ### A delivery stays a delivery -/

theorem abort_isDelivery {code : ErrCode} {l l' : Locals} {todo : List Micro} {p : Point}
    (h : abort code l = .run todo p l') : (Ctx.mk todo p l').isDelivery = true := by
  cases h
  rfl

theorem advance_isDelivery {next : FsmState} {arg : Word} {index : BitVec 6} {l l' : Locals} {todo : List Micro}
    {p : Point} (h : advance next arg index l = .run todo p l') : (Ctx.mk todo p l').isDelivery = true := by
  cases h
  rfl

theorem dispatch_isDelivery {l l' : Locals} {s : State} {todo : List Micro} {p : Point}
    (h : dispatch l s = .run todo p l') : (Ctx.mk todo p l').isDelivery = true := by
  unfold dispatch at h
  split at h
  · cases h; rfl
  · cases h; rfl
  · cases h; rfl
  · split at h
    · cases h
    · split at h
      · exact abort_isDelivery h
      · unfold expectedEvent at h
        split at h
        case h_4 =>
          split at h
          · cases h
          · cases h; rfl
        all_goals
          split at h
          · cases h
          · split at h
            · exact abort_isDelivery h
            · cases h; rfl

theorem checkpoint_isDelivery {x : Chain} {k : ChainStep} {l l' : Locals} {s : State} {todo : List Micro} {p : Point}
    (h : checkpoint x k l s = .run todo p l') : (Ctx.mk todo p l').isDelivery = true := by
  unfold checkpoint at h
  split at h
  · exact abort_isDelivery h
  · split at h
    · split at h
      · exact advance_isDelivery h
      · split at h <;> exact advance_isDelivery h
    · exact advance_isDelivery h
    · cases h; rfl
    · cases h

/-- The test a delivery comes to leads on to a delivery or to its end. -/
theorem continueAt_isDelivery {q p : Point} {l l' : Locals} {s : State} {todo : List Micro} (hq : deliveryPoint q = true)
    (h : continueAt q l s = .run todo p l') : (Ctx.mk todo p l').isDelivery = true := by
  cases q <;> simp only [deliveryPoint] at hq <;> simp only [continueAt] at h
  all_goals first
    | exact dispatch_isDelivery h
    | exact checkpoint_isDelivery h
    | cases hq
    | cases h

/-- A step a delivery plans is replaced by no other step. -/
theorem microStep_delivery {s t : State} {m : Micro} {l l' : Locals} {more : List Micro} (hm : deliveryMicro m = true)
    (h : microStep m l s = .next more l' t) : more = [] := by
  cases m <;> simp only [deliveryMicro] at hm <;> simp only [microStep, readByte] at h
  case write r v => cases hw : writeReg r v s <;> rw [hw] at h <;> cases h; rfl
  all_goals first
    | (cases hm; done)
    | (cases h; rfl)

/-- What one step of a delivery leaves. -/
theorem ctxStep_delivery {c c' : Ctx} {s t : State} (hc : c.isDelivery = true) (h : ctxStep c s = .running c' t) :
    c'.isDelivery = true := by
  obtain ⟨todo, p, l⟩ := c
  simp only [Ctx.isDelivery, Bool.and_eq_true] at hc
  have fin : ∀ {l : Locals} {u : State}, settle p l u = .running c' t → c'.isDelivery = true := by
    intro l u hs
    unfold settle at hs
    cases hd : continueAt p l u with
    | run todo' p' l' =>
      rw [hd] at hs
      cases hs
      exact continueAt_isDelivery hc.2 hd
    | finish v => rw [hd] at hs; cases hs
  cases todo with
  | nil => exact fin h
  | cons m rest =>
    simp only [List.all_cons, Bool.and_eq_true] at hc
    simp only [ctxStep] at h
    cases hm : microStep m l s with
    | refused r => rw [hm] at h; cases h
    | next more l' u =>
      obtain rfl := microStep_delivery hc.1.1 hm
      rw [hm] at h
      simp only [List.nil_append] at h
      cases rest with
      | nil => exact fin h
      | cons m' rest' =>
        cases h
        simp only [Ctx.isDelivery, Bool.and_eq_true]
        exact ⟨hc.1.2, hc.2⟩

end Sys2Proof.Machine
end

