-- ==== Sys2Proof/Laws/Events.lean ====
section
/-! SUPPORT. What a CONTROLLER event does to the data the invariant speaks of (40_register_model.md rules R128 to R134). -/

namespace Sys2Proof.Machine

/-- Latches raised inside the implemented bits keep the data part. -/
theorem raiseCommand_data {s : State} {bits : Byte} (hb : bits &&& 0xF0#8 = 0#8) (h : DataInv s) :
    DataInv (raiseCommand bits s) := by
  cases h
  constructor <;> simp only [raiseCommand, State.setRegs] <;> first
    | assumption
    | (apply or_reserved <;> assumption)

theorem raiseBlock_data {s : State} {tier : Tier} {bits : Byte} (hb : bits &&& 0xE0#8 = 0#8) (h : DataInv s) :
    DataInv (raiseBlock tier bits s) := by
  cases h
  cases tier <;> constructor <;> simp only [raiseBlock, State.setRegs] <;> first
    | assumption
    | (apply or_reserved <;> assumption)

/-- The data phase a response opens leaves the FIFOs and the command latch alone. -/
theorem startDataPhase_frame (c : Cfg) (h : Hidden) (n : Nat) :
    startDataPhase c h n = { h with
      dataPhase := (startDataPhase c h n).dataPhase, dataTier := (startDataPhase c h n).dataTier
      wordsLeft := (startDataPhase c h n).wordsLeft } := by
  unfold startDataPhase
  split <;> rfl

/-- An event keeps the data part and DISPATCHER's position. -/
theorem controllerStep_data {s t : State} {e : Event} (h : DataInv s) (hc : controllerStep e s = some t) :
    DataInv t ∧ t.disp = s.disp := by
  cases e <;> simp only [controllerStep] at hc
  case cmdSent =>
    unfold cmdSent at hc
    split at hc
    · next hp =>
      cases hc
      refine ⟨raiseCommand_data (by decide) ?_, rfl⟩
      have hk := h.command_known (by rw [hp]; decide)
      cases h
      constructor <;> simp only [State.setHid] <;> first
        | assumption
        | (intro _; exact hk)
        | (split <;> first
            | (intro hx; cases hx; done)
            | (intro _; assumption))
    · cases hc
  case respOk p n =>
    unfold respOk at hc
    split at hc
    · cases hc
      refine ⟨raiseCommand_data (by decide) ?_, rfl⟩
      cases h
      rw [startDataPhase_frame]
      constructor <;> simp only [State.setHid, State.setRegs] <;> first
        | assumption
        | (intro hx; exact absurd rfl hx)
        | (intro hx; cases hx)
    · cases hc
  case respFail silent =>
    unfold respFail at hc
    split at hc
    · cases hc
      refine ⟨raiseCommand_data (by cases silent <;> decide) ?_, rfl⟩
      cases h
      constructor <;> simp only [State.setHid] <;> first
        | assumption
        | (intro hx; exact absurd rfl hx)
        | (intro hx; cases hx)
    · cases hc
  case wordOut =>
    unfold wordOut at hc
    split at hc
    · cases hc
    · next w rest hw =>
      split at hc
      · cases hc
        refine ⟨?_, rfl⟩
        have := h.wfifo_fits
        rw [hw, List.length_cons] at this
        cases h
        constructor <;> simp only [State.setHid, State.setDeviceWords] <;> first
          | assumption
          | omega
      · cases hc
  case wordIn w =>
    unfold wordIn at hc
    split at hc
    · next hr =>
      cases hc
      refine ⟨?_, rfl⟩
      cases h
      constructor <;> simp only [State.setHid] <;> first
        | assumption
        | (simp only [List.length_append, List.length_singleton]; omega)
    · cases hc
  case dataDone crc ctrl =>
    unfold dataDone at hc
    split at hc
    · cases hc
      refine ⟨raiseBlock_data (by cases crc <;> cases ctrl <;> decide) ?_, ?_⟩
      · cases h
        constructor <;> assumption
      · unfold raiseBlock
        split <;> rfl
    · cases hc
  case fifoTimeout =>
    unfold fifoTimeout at hc
    split at hc
    · cases hc
      refine ⟨raiseBlock_data (by decide) ?_, ?_⟩
      · cases h
        constructor <;> assumption
      · unfold raiseBlock
        split <;> rfl
    · cases hc

end Sys2Proof.Machine
end

