-- ==== Sys2Proof/Laws/Plans.lean ====
section
/-! SUPPORT. What the steps an operation plans do to the Status record (44_nonblocking_transfers.md rule R225): most plans
assign none of it; a start operation, the timeout branch of `status` and the exit of `init` assign state and code together. -/

namespace Sys2Proof.Machine

/-! ### Plans that assign nothing of `st` -/

/-- The step assigns no field of `st`. -/
def Micro.leavesSt : Micro → Bool
  | .setSt _ => false
  | _ => true

/-- No step of the plan assigns a field of `st`. -/
abbrev LeavesSt (todo : List Micro) : Prop := todo.all Micro.leavesSt = true

theorem LeavesSt.append {a b : List Micro} (ha : LeavesSt a) (hb : LeavesSt b) : LeavesSt (a ++ b) := by
  simp only [LeavesSt, List.all_append, ha, hb, Bool.and_self]

theorem LeavesSt.not_mem {todo : List Micro} (h : LeavesSt todo) (u : StUpdate) : Micro.setSt u ∉ todo := by
  intro hm
  have := List.all_eq_true.1 h _ hm
  cases this

theorem LeavesSt.of_not_mem {todo : List Micro} (h : ∀ u, Micro.setSt u ∉ todo) : LeavesSt todo := by
  refine List.all_eq_true.2 fun m hm => ?_
  cases m <;> first
    | rfl
    | exact absurd hm (h _)

theorem leavesSt_cons {m : Micro} {rest : List Micro} : LeavesSt (m :: rest) ↔ m.leavesSt = true ∧ LeavesSt rest := by
  simp [LeavesSt]

theorem applySt_leaves {todo : List Micro} (h : LeavesSt todo) (t : Status) : applySt todo t = t := by
  induction todo with
  | nil => rfl
  | cons m rest ih =>
    obtain ⟨hm, hr⟩ := leavesSt_cons.1 h
    cases m <;> first
      | exact ih hr
      | cases hm

theorem leavesSt_issueSteps (arg : Word) (index : BitVec 6) : LeavesSt (issueSteps arg index) := by
  unfold issueSteps
  split <;> rfl

theorem leavesSt_fillBlock (c : Cfg) (buf : Word) : LeavesSt (fillBlock c buf) := by
  refine LeavesSt.of_not_mem fun u hu => ?_
  obtain ⟨i, _, hi⟩ := List.mem_map.1 hu
  cases hi

theorem leavesSt_drainBlock (c : Cfg) (dest : Dest) : LeavesSt (drainBlock c dest) := by
  refine LeavesSt.of_not_mem fun u hu => ?_
  obtain ⟨i, _, hi⟩ := List.mem_map.1 hu
  cases hi

/-! ### Plans that keep the agreement -/

/-- What a plan of ENGINE does to the Status record: the code and the state agree after it where they did before it, the
holding slot never gets the marker, each assigned state has its code after it, and ticks fit. -/
structure PlanKeeps (c : Cfg) (todo : List Micro) : Prop where
  agrees : ∀ t : Status, t.InFlightAgrees → (applySt todo t).InFlightAgrees
  temp : Micro.setSt (.tempErr .processing) ∉ todo
  order : stateThenErrState todo = true
  ticks : todo.all (Micro.ticksFit c) = true

theorem stateThenErrState_leaves {todo : List Micro} (h : LeavesSt todo) : stateThenErrState todo = true := by
  induction todo with
  | nil => rfl
  | cons m rest ih =>
    obtain ⟨hm, hr⟩ := leavesSt_cons.1 h
    cases m <;> first
      | exact ih hr
      | cases hm

theorem LeavesSt.keeps {todo : List Micro} (c : Cfg) (h : LeavesSt todo) : PlanKeeps c todo where
  agrees t ht := by rwa [applySt_leaves h]
  temp := h.not_mem _
  order := stateThenErrState_leaves h
  ticks := by
    refine List.all_eq_true.2 fun m hm => ?_
    have := List.all_eq_true.1 h m hm
    cases m <;> first
      | rfl
      | cases this

/-- The exit of `init` with a code (42_initialization.md rule R190). -/
theorem keeps_exit (c : Cfg) {code : ErrCode} (hc : code ≠ .processing) (l : Locals) :
    PlanKeeps c (Ctx.initExit c code l).todo where
  agrees t _ := by
    simp only [Ctx.initExit, clearAll, List.cons_append, List.nil_append, applySt, updateSt, Status.InFlightAgrees,
      FsmState.terminal]
    simp [hc]
  temp := by simp [Ctx.initExit, clearAll, Ne.symm hc]
  order := rfl
  ticks := by
    simp only [Ctx.initExit, clearAll, List.cons_append, List.nil_append, List.all_cons, Micro.ticksFit, List.all_nil,
      Bool.true_and, Bool.and_true, Bool.and_eq_true, decide_eq_true_eq]
    have := Nat.two_pow_pos c.tickBits
    omega

/-- `start_nb` (44_nonblocking_transfers.md rule R216). -/
theorem keeps_start (c : Cfg) (x : Chain) (sector : Word) (n : BitVec 16) {t0 lim : Nat} (h0 : t0 < 2 ^ c.tickBits)
    (h1 : lim < 2 ^ c.tickBits) : PlanKeeps c (startNbSteps c x sector n t0 lim) where
  agrees t _ := by
    cases x <;> simp [startNbSteps, clearAll, Chain.tier, sendCommand, fiveWrites, applySt, updateSt,
      Status.InFlightAgrees, FsmState.terminal, Chain.parseStatus]
  temp := by
    cases x <;> simp [startNbSteps, clearAll, Chain.tier, sendCommand, fiveWrites]
  order := by cases x <;> rfl
  ticks := by
    cases x <;> simp [startNbSteps, clearAll, Chain.tier, sendCommand, fiveWrites, Micro.ticksFit, h0, h1]

/-- The timeout branch of `status` (rule R221). -/
theorem keeps_appTimeout (c : Cfg) : PlanKeeps c appTimeoutSteps where
  agrees t _ := by
    simp [appTimeoutSteps, clearAll, maskAll, applySt, updateSt, Status.InFlightAgrees, FsmState.terminal]
  temp := by simp [appTimeoutSteps, clearAll, maskAll]
  order := rfl
  ticks := rfl

theorem tickOf_fits (c : Cfg) (w : Word) : tickOf c w < 2 ^ c.tickBits :=
  Nat.mod_lt _ (Nat.two_pow_pos _)

/-! ### The plans of ENGINE -/

/-- A decision of ENGINE: a plan that keeps the agreement and leads to a test of ENGINE's own, or the end. -/
def Decision.Keeps (c : Cfg) : Decision → Prop
  | .run todo p _ => PlanKeeps c todo ∧ p.ofDelivery = false
  | .finish _ => True

theorem issueAfter_keeps (c : Cfg) {before : List Micro} (hb : LeavesSt before) (arg : Word) (index : BitVec 6) (k : Cont)
    (l : Locals) : (issueAfter before arg index k l).Keeps c := by
  refine ⟨(hb.append (leavesSt_issueSteps arg index)).keeps c, ?_⟩
  unfold issuePoint
  split <;> rfl

theorem waitReadyAfter_keeps (c : Cfg) {before : List Micro} (hb : LeavesSt before) (w : Wait) (l : Locals) (s : State) :
    (waitReadyAfter before w l s).Keeps c :=
  issueAfter_keeps c hb _ _ _ _

theorem exitInit_keeps {code : ErrCode} (hc : code ≠ .processing) (l : Locals) (s : State) :
    (exitInit code l s).Keeps s.cfg :=
  ⟨keeps_exit s.cfg hc l, rfl⟩

theorem readBlockEnds_keeps (dest : Dest) {code : ErrCode} (hc : code ≠ .processing) (l : Locals) (s : State) :
    (readBlockEnds dest code l s).Keeps s.cfg := by
  unfold readBlockEnds
  split
  · trivial
  · split
    · exact ⟨LeavesSt.keeps _ rfl, rfl⟩
    · exact exitInit_keeps hc l s

theorem speedSwitch_keeps (l : Locals) (s : State) : (speedSwitch l s).Keeps s.cfg :=
  issueAfter_keeps _ rfl _ _ _ _

theorem busSwitch_keeps (l : Locals) (s : State) : (busSwitch l s).Keeps s.cfg := by
  unfold busSwitch
  split
  · exact issueAfter_keeps _ rfl _ _ _ _
  · split
    · exact issueAfter_keeps _ rfl _ _ _ _
    · exact speedSwitch_keeps l s

theorem readCommand_keeps (sector : Word) (dest : Dest) (l : Locals) (s : State) :
    (readCommand sector dest l s).Keeps s.cfg := by
  unfold readCommand
  split <;> exact issueAfter_keeps _ rfl _ _ _ _

theorem afterWait_keeps (w : Wait) (failed : Bool) (l : Locals) (s : State) : (afterWait w failed l s).Keeps s.cfg := by
  cases w <;> cases failed <;> simp only [afterWait, if_true, Bool.false_eq_true, if_false] <;> first
    | trivial
    | exact exitInit_keeps (by decide) l s
    | exact speedSwitch_keeps l s
    | exact readCommand_keeps _ _ l s
    | exact readBlockEnds_keeps _ (by decide) l s
    | exact waitReadyAfter_keeps _ rfl _ l s
    | exact issueAfter_keeps _ rfl _ _ _ l

theorem resume_keeps (k : Cont) (r : CmdResult) (l : Locals) (s : State) : (resume k r l s).Keeps s.cfg := by
  cases k <;> simp only [resume] <;> (try split) <;> first
    | trivial
    | exact exitInit_keeps (by decide) l s
    | exact busSwitch_keeps l s
    | exact afterWait_keeps _ _ l s
    | exact readBlockEnds_keeps _ (by decide) l s
    | exact waitReadyAfter_keeps _ rfl _ l s
    | exact issueAfter_keeps _ rfl _ _ _ l
    | exact ⟨LeavesSt.keeps _ rfl, rfl⟩
    | exact ⟨((leavesSt_fillBlock _ _).append rfl).keeps _, rfl⟩

/-- Every test ENGINE comes to. -/
theorem continueAt_keeps {p : Point} (hp : p.ofDelivery = false) (l : Locals) (s : State) :
    (continueAt p l s).Keeps s.cfg := by
  cases p <;> simp only [continueAt]
  case ret => trivial
  case result => exact resume_keeps _ _ l s
  case responded =>
    unfold afterResponse
    split
    · exact resume_keeps _ _ l s
    · split
      · exact ⟨LeavesSt.keeps _ rfl, rfl⟩
      · exact resume_keeps _ _ l s
  case parsed => exact resume_keeps _ _ l s
  case r2Read => trivial
  case initVersion =>
    unfold afterVersion
    split
    · exact issueAfter_keeps _ rfl _ _ _ l
    · exact exitInit_keeps (by decide) l s
  case initOcr =>
    unfold afterOcr
    split
    · exact issueAfter_keeps _ rfl _ _ _ l
    · split
      · exact exitInit_keeps (by decide) l s
      · exact issueAfter_keeps _ rfl _ _ _ l
  case initCaptured =>
    unfold afterCapture
    split <;> exact exitInit_keeps (by decide) l s
  case writeDone =>
    unfold afterWriteDone
    split
    · trivial
    · split
      · trivial
      · exact waitReadyAfter_keeps _ rfl _ l s
  case readDone dest =>
    unfold afterReadDone
    split
    · exact readBlockEnds_keeps _ (by decide) l s
    · split
      · exact readBlockEnds_keeps _ (by decide) l s
      · exact waitReadyAfter_keeps _ (leavesSt_drainBlock _ _) _ l s
  case dispatch => cases hp
  case checkpoint => cases hp

end Sys2Proof.Machine
end

