-- ==== Sys2Proof/Laws/Frame.lean ====
section
/-! SUPPORT. What each shared operation can do, said once: a step of a context, a request, a turn, a step of the machine. -/

namespace Sys2Proof.Machine

/-! ### Steps of a context -/

/-- A step of a context leaves `cfg`, `par`, the flag `faulted`, the two positions, the extents, the agenda, the value for HOST
and the words handed to DEVICE alone. -/
theorem microStep_frame {s t : State} {m : Micro} {l l' : Locals} {more : List Micro}
    (h : microStep m l s = .next more l' t) :
    t = { s with
      regs := t.regs, hid := t.hid, mem := t.mem, inst := t.inst, st := t.st
      initialised := t.initialised, initExited := t.initExited, draws := t.draws } := by
  cases m <;> simp only [microStep, readByte] at h
  case write r v =>
    cases hw : writeReg r v s with
    | ok u =>
      rw [hw] at h
      cases h
      rw [writeReg_frame hw]
    | error e => rw [hw] at h; cases h
  case fill buf i =>
    cases hw : writeReg .wdr (bufWord s.cfg.littleEndian s.mem buf i) s with
    | ok u =>
      rw [hw] at h
      cases h
      rw [writeReg_frame hw]
    | error e => rw [hw] at h; cases h
  case drain dest i =>
    cases dest with
    | caller => cases h; rw [readReg_frame .rdr s]; rfl
    | scratch => cases h; rw [readReg_frame .rdr s]
  case readMajor => cases h; rw [readReg_frame .mjvr s]; rfl
  case readMinor => cases h; rw [readReg_frame .mivr s]; rfl
  case setInst => cases h; rfl
  case setSt => cases h; rfl
  case setInitialised => cases h; rfl
  all_goals cases h; rw [readReg_frame]

/-- What a context that has taken a step leaves behind. -/
def CtxResult.state? : CtxResult → Option State
  | .running _ t => some t
  | .finished _ t => some t
  | .refused _ => none

/-- A test changes no state. -/
theorem settle_state {p : Point} {l : Locals} {s t : State} (h : (settle p l s).state? = some t) : t = s := by
  unfold settle at h
  cases hc : continueAt p l s <;> rw [hc] at h <;> cases h <;> rfl

/-- A step of a context is a test alone, or one planned step. -/
theorem ctxStep_cases {c : Ctx} {s t : State} (h : (ctxStep c s).state? = some t) :
    t = s ∨ ∃ m rest more l, c.todo = m :: rest ∧ microStep m c.locals s = .next more l t := by
  obtain ⟨todo, p, l⟩ := c
  cases todo with
  | nil => exact .inl (settle_state h)
  | cons m rest =>
    right
    simp only [ctxStep] at h
    cases hm : microStep m l s with
    | refused r => rw [hm] at h; cases h
    | next more l' u =>
      rw [hm] at h
      simp only at h
      refine ⟨m, rest, more, l', rfl, ?_⟩
      split at h
      · rw [settle_state h]
        exact hm
      · cases h
        exact hm

/-- What a step of a context leaves alone. -/
theorem ctxStep_frame {c : Ctx} {s t : State} (h : (ctxStep c s).state? = some t) :
    t = { s with
      regs := t.regs, hid := t.hid, mem := t.mem, inst := t.inst, st := t.st
      initialised := t.initialised, initExited := t.initExited, draws := t.draws } := by
  rcases ctxStep_cases h with rfl | ⟨m, rest, more, l, _, hm⟩
  · rfl
  · exact microStep_frame hm

/-- ENGINE's step: the state the context's step leaves, with ENGINE's position and, at the end, the value for HOST. -/
theorem engineStep_cases {s t : State} (h : engineStep s = .next t) :
    (s.engine = none ∧ t = s)
    ∨ ∃ c u, s.engine = some c
      ∧ ((∃ c', ctxStep c s = .running c' u ∧ t = u.setEngine (some c'))
        ∨ ∃ v, ctxStep c s = .finished v u ∧ t = (u.setEngine none).setResult v) := by
  unfold engineStep at h
  cases he : s.engine with
  | none => rw [he] at h; cases h; exact .inl ⟨rfl, rfl⟩
  | some c =>
    rw [he] at h
    simp only at h
    cases hc : ctxStep c s with
    | running c' u => rw [hc] at h; cases h; exact .inr ⟨c, u, rfl, .inl ⟨c', hc, rfl⟩⟩
    | finished v u => rw [hc] at h; cases h; exact .inr ⟨c, u, rfl, .inr ⟨v, hc, rfl⟩⟩
    | refused r => rw [hc] at h; cases h

/-- DISPATCHER's step: the state the context's step leaves, with DISPATCHER's position. -/
theorem dispatcherStep_cases {s t : State} (h : dispatcherStep s = .next t) :
    (s.disp = none ∧ t = s)
    ∨ ∃ c u, s.disp = some c
      ∧ ((∃ c', ctxStep c s = .running c' u ∧ t = u.setDisp (some c'))
        ∨ ∃ v, ctxStep c s = .finished v u ∧ t = u.setDisp none) := by
  unfold dispatcherStep at h
  cases he : s.disp with
  | none => rw [he] at h; cases h; exact .inl ⟨rfl, rfl⟩
  | some c =>
    rw [he] at h
    simp only at h
    cases hc : ctxStep c s with
    | running c' u => rw [hc] at h; cases h; exact .inr ⟨c, u, rfl, .inl ⟨c', hc, rfl⟩⟩
    | finished v u => rw [hc] at h; cases h; exact .inr ⟨c, u, rfl, .inr ⟨v, hc, rfl⟩⟩
    | refused r => rw [hc] at h; cases h

/-! ### Requests -/

/-- Everything an executed instruction can do. -/
inductive ExecResult (s t : State) : Prop where
  | assertFault (reason : AssertReason) (h : t = s.setFaulted (some reason))
  | answered (v : Option Ret) (h : t = s.setResult v)
  | read (r : Reg) (v : Option Ret) (h : t = (readReg r s).2.setResult v)
  | written (r : Reg) (w : Word) (u : State) (h : writeReg r w s = .ok u) (h' : t = u.setResult none)
  | started (p : Params) (todo : List Micro) (point : Point) (hk : PlanKeeps s.cfg todo) (hp : point.ofDelivery = false)
      (h : t = ((s.setPar p).setResult none).setEngine (some ⟨todo, point, Locals.start⟩))
  | entered (h : t = s.setDisp (some Ctx.deliveryStart))

theorem hostRead_result {r : Reg} {s t : State} (h : hostRead r s = .next t) : ExecResult s t := by
  unfold hostRead at h
  simp only at h
  split at h <;> cases h <;> exact .read r _ rfl

theorem hostWrite_result {r : Reg} {w : Word} {s t : State} (h : hostWrite r w s = .next t) : ExecResult s t := by
  unfold hostWrite at h
  cases hw : writeReg r w s with
  | ok u => rw [hw] at h; cases h; exact .written r w u hw rfl
  | error e => rw [hw] at h; cases h

theorem startOperation_result {todo : List Micro} {p : Point} {s t : State} (hk : PlanKeeps s.cfg todo)
    (hp : p.ofDelivery = false) (h : startOperation todo p s = .next t) : ExecResult s t := by
  cases h
  exact .started s.par todo p hk hp rfl

theorem issuePoint_own (index : BitVec 6) (k : Cont) : (issuePoint index k).ofDelivery = false := by
  unfold issuePoint
  split <;> rfl

theorem leavesSt_sendCommand (arg : Word) (index : BitVec 6) (policy : Policy) : LeavesSt (sendCommand arg index policy) := by
  cases policy <;> rfl

theorem enterInterrupt_result {iv : Bool} {s t : State} (h : enterInterrupt iv s = .next t) : ExecResult s t := by
  unfold enterInterrupt at h
  split at h
  · cases h; exact .assertFault _ rfl
  · split at h
    · cases h
    · cases h; exact .entered rfl

theorem blockingTransfer_result {iv : Bool} {buf : Word} {s t : State} {k : State → Host.Outcome State Fault Refusal}
    (h : blockingTransfer iv buf s k = .next t) (hk : k s = .next t → ExecResult s t) : ExecResult s t := by
  unfold blockingTransfer at h
  split at h
  · cases h; exact .assertFault _ rfl
  · split at h
    · cases h
    · split at h
      · cases h
      · split at h
        · cases h
        · exact hk h

theorem startNb_result {iv : Bool} {x : Chain} {sector : Word} {n : BitVec 16} {t0 lim : Word} {s t : State}
    (h : startNb iv x sector n t0 lim s = .next t) : ExecResult s t := by
  unfold startNb at h
  split at h
  · cases h; exact .assertFault _ rfl
  · split at h
    · cases h; exact .assertFault _ rfl
    · split at h
      · cases h; exact .assertFault _ rfl
      · split at h
        · cases h
        · split at h
          · cases h
          · exact startOperation_result (keeps_start _ _ _ _ (tickOf_fits _ _) (tickOf_fits _ _)) rfl h

/-- Every instruction does one of these and nothing else. -/
theorem exec_result {i : Instr} {s t : State} (h : exec i s = .next t) : ExecResult s t := by
  cases i
  case init iv a b =>
    simp only [exec, execInit] at h
    split at h
    · cases h; exact .assertFault _ rfl
    · split at h
      · cases h
      · cases h; exact .started _ _ _ (LeavesSt.keeps _ rfl) rfl rfl
  case sbw =>
    simp only [exec, execSbw] at h
    exact blockingTransfer_result h
      (startOperation_result ((leavesSt_cons.2 ⟨rfl, leavesSt_issueSteps _ _⟩).keeps _) (issuePoint_own _ _))
  case sbr =>
    simp only [exec, execSbr] at h
    exact blockingTransfer_result h
      (startOperation_result ((leavesSt_cons.2 ⟨rfl, leavesSt_issueSteps _ _⟩).keeps _) (issuePoint_own _ _))
  case sbwNb => exact startNb_result h
  case sbrNb => exact startNb_result h
  case mbw => exact startNb_result h
  case mbr => exact startNb_result h
  case status iv now =>
    simp only [exec, execStatus] at h
    split at h
    · cases h; exact .assertFault _ rfl
    · split at h
      · cases h
      · split at h
        · exact startOperation_result (keeps_appTimeout _) rfl h
        · cases h; exact .answered _ rfl
  case isr => exact enterInterrupt_result h
  case initFifo iv =>
    simp only [exec, execInitFifo] at h
    split at h
    · cases h; exact .assertFault _ rfl
    · exact hostWrite_result h
  case wfifoAddr iv =>
    simp only [exec, execWfifoAddr] at h
    split at h
    · cases h; exact .assertFault _ rfl
    · cases h; exact .answered _ rfl
  case rfifoAddr iv =>
    simp only [exec, execRfifoAddr] at h
    split at h
    · cases h; exact .assertFault _ rfl
    · cases h; exact .answered _ rfl
  case sendCommand =>
    simp only [exec, execSendCommand] at h
    split at h
    · cases h
    · exact startOperation_result ((leavesSt_sendCommand _ _ _).keeps _) rfl h
  case issueCommand =>
    simp only [exec, execIssueCommand] at h
    split at h
    · cases h
    · exact startOperation_result ((leavesSt_issueSteps _ _).keeps _) (issuePoint_own _ _) h
  all_goals
    simp only [exec,
      execR8Sr, execW8Sr, execR8Vr, execW8Vr, execR8Mjvr, execW8Mjvr, execR8Mivr, execW8Mivr, execR8Cmdx, execW8Cmdx,
      execR8Arg1, execW8Arg1, execR8Arg2, execW8Arg2, execR8Arg3, execW8Arg3, execR8Arg4, execW8Arg4, execR8Rr0,
      execW8Rr0, execR8Rr1, execW8Rr1, execR8Rr2, execW8Rr2, execR8Rr3, execW8Rr3, execR8Rr4, execW8Rr4, execR8Rr5,
      execW8Rr5, execR8Rr6, execW8Rr6, execR8Rr7, execW8Rr7, execR8Rr8, execW8Rr8, execR8Rr9, execW8Rr9, execR8Rr10,
      execW8Rr10, execR8Rr11, execW8Rr11, execR8Rr12, execW8Rr12, execR8Rr13, execW8Rr13, execR8Rr14, execW8Rr14,
      execR8Rr15, execW8Rr15, execR8Rr16, execW8Rr16, execR32Wdr, execW32Wdr, execR32Rdr, execW32Rdr, execR8Imr,
      execW8Imr, execR8Sbimr, execW8Sbimr, execR8Mbimr, execW8Mbimr, execR8Isr, execW8Isr, execR8Sbisr, execW8Sbisr,
      execR8Mbisr, execW8Mbisr, execR8Icr, execW8Icr, execR8Sbicr, execW8Sbicr, execR8Mbicr, execW8Mbicr, execR8Ctrl,
      execW8Ctrl, execR8Sbcsr, execW8Sbcsr, execR8Mbcsr, execW8Mbcsr, execR8Clkr, execW8Clkr, execR32Datato,
      execW32Datato, execR16Blr, execW16Blr, execGoIdleState, execSendOpCond, execAllSendCid, execSetRelativeAddr,
      execSwitch, execSelectCard, execSendExtCsd, execStopTransmission, execSendStatus, execReadSingleBlock,
      execReadMultipleBlock, execSetBlockCount, execWriteSingleBlock, execWriteMultipleBlock, hostSend] at h
    first
    | exact hostRead_result h
    | exact hostWrite_result h
    | exact startOperation_result (LeavesSt.keeps _ rfl) rfl h

/-! ### A step of the machine -/

/-- Everything one step can do: with the turn taken or left on the agenda, nothing; a step of DISPATCHER; a step of ENGINE,
with no delivery in progress; with nothing in progress, an executed instruction, an access to a reserved offset or the
start of `read_r2`; a delivery entered, by the platform or by HOST's call; an event. -/
inductive TurnResult (s t : State) (rest : List Turn) : Prop where
  | passed (h : t = s.setAgenda rest)
  | dispatcher (h : dispatcherStep (s.setAgenda rest) = .next t)
  | engine (hd : s.disp = none) (h : engineStep (s.setAgenda rest) = .next t)
  | served (he : s.engine = none) (hd : s.disp = none) (h : ExecResult (s.setAgenda rest) t)
  | delivered (iv : Bool) (ha : s.agenda = .deliver iv :: rest) (hi : irq s = true) (hd : s.disp = none)
      (h : enterInterrupt iv (s.setAgenda rest) = .next t)
  | called (iv : Bool) (ha : s.agenda = .hostIsr iv :: rest) (hd : s.disp = none)
      (h : enterInterrupt iv (s.setAgenda rest) = .next t)
  | event (e : Event) (ha : s.agenda = .event e :: rest) (h : controllerStep e (s.setAgenda rest) = some t)

theorem step_cases {s t : State} (h : step s = .next t) :
    ∃ rest, (rest = s.agenda ∨ ∃ turn, s.agenda = turn :: rest) ∧ TurnResult s t rest := by
  have bg : background s = .next t → ∃ rest, (rest = s.agenda ∨ ∃ turn, s.agenda = turn :: rest) ∧ TurnResult s t rest := by
    intro hb
    refine ⟨s.agenda, .inl rfl, ?_⟩
    unfold background at hb
    split at hb
    · exact .dispatcher hb
    · next hd => exact .engine (by simpa using hd) hb
  simp only [step, takeStep] at h
  split at h
  · cases h
  · cases ha : s.agenda with
    | nil =>
      rw [ha] at h bg
      exact bg h
    | cons turn rest =>
      rw [ha] at h
      cases turn <;> simp only [takeTurn] at h
      case request src bytes =>
        split at h
        · rw [ha] at bg
          exact bg h
        · next hb =>
          simp only [Bool.or_eq_true, not_or, Bool.not_eq_true, Option.isSome_eq_false_iff, Option.isNone_iff_eq_none] at hb
          refine ⟨rest, .inr ⟨_, rfl⟩, .served hb.2 hb.1 ?_⟩
          unfold serve at h
          split at h
          · cases h
          · cases h; exact .answered _ rfl
          · split at h
            · cases h
            · exact exec_result h
      case readR2 =>
        split at h
        · rw [ha] at bg
          exact bg h
        · next hb =>
          simp only [Bool.or_eq_true, not_or, Bool.not_eq_true, Option.isSome_eq_false_iff, Option.isNone_iff_eq_none] at hb
          exact ⟨rest, .inr ⟨_, rfl⟩, .served hb.2 hb.1 (startOperation_result (LeavesSt.keeps _ rfl) rfl h)⟩
      case engine =>
        refine ⟨rest, .inr ⟨_, rfl⟩, ?_⟩
        split at h
        · cases h; exact .passed rfl
        · next hd => exact .engine (by simpa using hd) h
      case dispatcher => exact ⟨rest, .inr ⟨_, rfl⟩, .dispatcher h⟩
      case deliver iv =>
        refine ⟨rest, .inr ⟨_, rfl⟩, ?_⟩
        split at h
        · next hi =>
          simp only [Bool.and_eq_true, Option.isNone_iff_eq_none] at hi
          exact .delivered iv ha hi.1 hi.2 h
        · cases h; exact .passed rfl
      case hostIsr iv =>
        split at h
        · rw [ha] at bg
          exact bg h
        · next hd => exact ⟨rest, .inr ⟨_, rfl⟩, .called iv ha (by simpa using hd) h⟩
      case event e =>
        refine ⟨rest, .inr ⟨_, rfl⟩, ?_⟩
        split at h
        · next u hc =>
          cases h
          exact .event e ha hc
        · cases h; exact .passed rfl

end Sys2Proof.Machine
end

