-- ==== Sys2Proof/Laws/PerInstr.lean ====
section
/-! SUPPORT. One fact about every instruction as syntax: the length of its packet (30_encoding.md rule R100: a register
transaction has 48 bits, a command 40, an operation request 144), in both byte orders. -/

namespace Sys2Proof.Laws.EncodeLength

/-- The bytes of an instruction's packet, by its format. -/
def packetLength : Instr → Nat
  | .r8Sr => 6
  | .w8Sr _ => 6
  | .r8Vr => 6
  | .w8Vr _ => 6
  | .r8Mjvr => 6
  | .w8Mjvr _ => 6
  | .r8Mivr => 6
  | .w8Mivr _ => 6
  | .r8Cmdx => 6
  | .w8Cmdx _ => 6
  | .r8Arg1 => 6
  | .w8Arg1 _ => 6
  | .r8Arg2 => 6
  | .w8Arg2 _ => 6
  | .r8Arg3 => 6
  | .w8Arg3 _ => 6
  | .r8Arg4 => 6
  | .w8Arg4 _ => 6
  | .r8Rr0 => 6
  | .w8Rr0 _ => 6
  | .r8Rr1 => 6
  | .w8Rr1 _ => 6
  | .r8Rr2 => 6
  | .w8Rr2 _ => 6
  | .r8Rr3 => 6
  | .w8Rr3 _ => 6
  | .r8Rr4 => 6
  | .w8Rr4 _ => 6
  | .r8Rr5 => 6
  | .w8Rr5 _ => 6
  | .r8Rr6 => 6
  | .w8Rr6 _ => 6
  | .r8Rr7 => 6
  | .w8Rr7 _ => 6
  | .r8Rr8 => 6
  | .w8Rr8 _ => 6
  | .r8Rr9 => 6
  | .w8Rr9 _ => 6
  | .r8Rr10 => 6
  | .w8Rr10 _ => 6
  | .r8Rr11 => 6
  | .w8Rr11 _ => 6
  | .r8Rr12 => 6
  | .w8Rr12 _ => 6
  | .r8Rr13 => 6
  | .w8Rr13 _ => 6
  | .r8Rr14 => 6
  | .w8Rr14 _ => 6
  | .r8Rr15 => 6
  | .w8Rr15 _ => 6
  | .r8Rr16 => 6
  | .w8Rr16 _ => 6
  | .r32Wdr => 6
  | .w32Wdr _ => 6
  | .r32Rdr => 6
  | .w32Rdr _ => 6
  | .r8Imr => 6
  | .w8Imr _ => 6
  | .r8Sbimr => 6
  | .w8Sbimr _ => 6
  | .r8Mbimr => 6
  | .w8Mbimr _ => 6
  | .r8Isr => 6
  | .w8Isr _ => 6
  | .r8Sbisr => 6
  | .w8Sbisr _ => 6
  | .r8Mbisr => 6
  | .w8Mbisr _ => 6
  | .r8Icr => 6
  | .w8Icr _ => 6
  | .r8Sbicr => 6
  | .w8Sbicr _ => 6
  | .r8Mbicr => 6
  | .w8Mbicr _ => 6
  | .r8Ctrl => 6
  | .w8Ctrl _ => 6
  | .r8Sbcsr => 6
  | .w8Sbcsr _ => 6
  | .r8Mbcsr => 6
  | .w8Mbcsr _ => 6
  | .r8Clkr => 6
  | .w8Clkr _ => 6
  | .r32Datato => 6
  | .w32Datato _ => 6
  | .r16Blr => 6
  | .w16Blr _ => 6
  | .goIdleState _ => 5
  | .sendOpCond _ => 5
  | .allSendCid _ => 5
  | .setRelativeAddr _ => 5
  | .switch _ => 5
  | .selectCard _ => 5
  | .sendExtCsd _ => 5
  | .stopTransmission _ => 5
  | .sendStatus _ => 5
  | .readSingleBlock _ => 5
  | .readMultipleBlock _ => 5
  | .setBlockCount _ => 5
  | .writeSingleBlock _ => 5
  | .writeMultipleBlock _ => 5
  | .init _ _ _ => 18
  | .sbw _ _ _ => 18
  | .sbr _ _ _ => 18
  | .sbwNb _ _ _ _ => 18
  | .sbrNb _ _ _ _ => 18
  | .mbw _ _ _ _ _ => 18
  | .mbr _ _ _ _ _ => 18
  | .status _ _ => 18
  | .isr _ => 18
  | .initFifo _ => 18
  | .wfifoAddr _ => 18
  | .rfifoAddr _ => 18
  | .sendCommand _ _ _ _ => 18
  | .issueCommand _ _ _ => 18

/-- The packet has the length of its format. -/
def Statement (i : Instr) : Prop :=
  ∀ c : Cfg, (encode c i).length = packetLength i

theorem reg_length (c : Cfg) (write : Bool) (r : Reg) (v : Word) : (encodeReg c write r v).length = 6 := by
  unfold encodeReg
  cases c.littleEndian <;> rfl

theorem cmd_length (index : BitVec 6) (arg : Word) : (encodeCmd index arg).length = 5 := rfl

theorem op_length (le : Bool) (op : Byte) (iv : Bool) (a b c d : Word) : (encodeOp le op iv a b c d).length = 18 := by
  cases le <;> rfl

theorem r8Sr : Statement .r8Sr := fun _ => reg_length _ _ _ _
theorem w8Sr : ∀ a0, Statement (.w8Sr a0) := fun _ => fun _ => reg_length _ _ _ _
theorem r8Vr : Statement .r8Vr := fun _ => reg_length _ _ _ _
theorem w8Vr : ∀ a0, Statement (.w8Vr a0) := fun _ => fun _ => reg_length _ _ _ _
theorem r8Mjvr : Statement .r8Mjvr := fun _ => reg_length _ _ _ _
theorem w8Mjvr : ∀ a0, Statement (.w8Mjvr a0) := fun _ => fun _ => reg_length _ _ _ _
theorem r8Mivr : Statement .r8Mivr := fun _ => reg_length _ _ _ _
theorem w8Mivr : ∀ a0, Statement (.w8Mivr a0) := fun _ => fun _ => reg_length _ _ _ _
theorem r8Cmdx : Statement .r8Cmdx := fun _ => reg_length _ _ _ _
theorem w8Cmdx : ∀ a0, Statement (.w8Cmdx a0) := fun _ => fun _ => reg_length _ _ _ _
theorem r8Arg1 : Statement .r8Arg1 := fun _ => reg_length _ _ _ _
theorem w8Arg1 : ∀ a0, Statement (.w8Arg1 a0) := fun _ => fun _ => reg_length _ _ _ _
theorem r8Arg2 : Statement .r8Arg2 := fun _ => reg_length _ _ _ _
theorem w8Arg2 : ∀ a0, Statement (.w8Arg2 a0) := fun _ => fun _ => reg_length _ _ _ _
theorem r8Arg3 : Statement .r8Arg3 := fun _ => reg_length _ _ _ _
theorem w8Arg3 : ∀ a0, Statement (.w8Arg3 a0) := fun _ => fun _ => reg_length _ _ _ _
theorem r8Arg4 : Statement .r8Arg4 := fun _ => reg_length _ _ _ _
theorem w8Arg4 : ∀ a0, Statement (.w8Arg4 a0) := fun _ => fun _ => reg_length _ _ _ _
theorem r8Rr0 : Statement .r8Rr0 := fun _ => reg_length _ _ _ _
theorem w8Rr0 : ∀ a0, Statement (.w8Rr0 a0) := fun _ => fun _ => reg_length _ _ _ _
theorem r8Rr1 : Statement .r8Rr1 := fun _ => reg_length _ _ _ _
theorem w8Rr1 : ∀ a0, Statement (.w8Rr1 a0) := fun _ => fun _ => reg_length _ _ _ _
theorem r8Rr2 : Statement .r8Rr2 := fun _ => reg_length _ _ _ _
theorem w8Rr2 : ∀ a0, Statement (.w8Rr2 a0) := fun _ => fun _ => reg_length _ _ _ _
theorem r8Rr3 : Statement .r8Rr3 := fun _ => reg_length _ _ _ _
theorem w8Rr3 : ∀ a0, Statement (.w8Rr3 a0) := fun _ => fun _ => reg_length _ _ _ _
theorem r8Rr4 : Statement .r8Rr4 := fun _ => reg_length _ _ _ _
theorem w8Rr4 : ∀ a0, Statement (.w8Rr4 a0) := fun _ => fun _ => reg_length _ _ _ _
theorem r8Rr5 : Statement .r8Rr5 := fun _ => reg_length _ _ _ _
theorem w8Rr5 : ∀ a0, Statement (.w8Rr5 a0) := fun _ => fun _ => reg_length _ _ _ _
theorem r8Rr6 : Statement .r8Rr6 := fun _ => reg_length _ _ _ _
theorem w8Rr6 : ∀ a0, Statement (.w8Rr6 a0) := fun _ => fun _ => reg_length _ _ _ _
theorem r8Rr7 : Statement .r8Rr7 := fun _ => reg_length _ _ _ _
theorem w8Rr7 : ∀ a0, Statement (.w8Rr7 a0) := fun _ => fun _ => reg_length _ _ _ _
theorem r8Rr8 : Statement .r8Rr8 := fun _ => reg_length _ _ _ _
theorem w8Rr8 : ∀ a0, Statement (.w8Rr8 a0) := fun _ => fun _ => reg_length _ _ _ _
theorem r8Rr9 : Statement .r8Rr9 := fun _ => reg_length _ _ _ _
theorem w8Rr9 : ∀ a0, Statement (.w8Rr9 a0) := fun _ => fun _ => reg_length _ _ _ _
theorem r8Rr10 : Statement .r8Rr10 := fun _ => reg_length _ _ _ _
theorem w8Rr10 : ∀ a0, Statement (.w8Rr10 a0) := fun _ => fun _ => reg_length _ _ _ _
theorem r8Rr11 : Statement .r8Rr11 := fun _ => reg_length _ _ _ _
theorem w8Rr11 : ∀ a0, Statement (.w8Rr11 a0) := fun _ => fun _ => reg_length _ _ _ _
theorem r8Rr12 : Statement .r8Rr12 := fun _ => reg_length _ _ _ _
theorem w8Rr12 : ∀ a0, Statement (.w8Rr12 a0) := fun _ => fun _ => reg_length _ _ _ _
theorem r8Rr13 : Statement .r8Rr13 := fun _ => reg_length _ _ _ _
theorem w8Rr13 : ∀ a0, Statement (.w8Rr13 a0) := fun _ => fun _ => reg_length _ _ _ _
theorem r8Rr14 : Statement .r8Rr14 := fun _ => reg_length _ _ _ _
theorem w8Rr14 : ∀ a0, Statement (.w8Rr14 a0) := fun _ => fun _ => reg_length _ _ _ _
theorem r8Rr15 : Statement .r8Rr15 := fun _ => reg_length _ _ _ _
theorem w8Rr15 : ∀ a0, Statement (.w8Rr15 a0) := fun _ => fun _ => reg_length _ _ _ _
theorem r8Rr16 : Statement .r8Rr16 := fun _ => reg_length _ _ _ _
theorem w8Rr16 : ∀ a0, Statement (.w8Rr16 a0) := fun _ => fun _ => reg_length _ _ _ _
theorem r32Wdr : Statement .r32Wdr := fun _ => reg_length _ _ _ _
theorem w32Wdr : ∀ a0, Statement (.w32Wdr a0) := fun _ => fun _ => reg_length _ _ _ _
theorem r32Rdr : Statement .r32Rdr := fun _ => reg_length _ _ _ _
theorem w32Rdr : ∀ a0, Statement (.w32Rdr a0) := fun _ => fun _ => reg_length _ _ _ _
theorem r8Imr : Statement .r8Imr := fun _ => reg_length _ _ _ _
theorem w8Imr : ∀ a0, Statement (.w8Imr a0) := fun _ => fun _ => reg_length _ _ _ _
theorem r8Sbimr : Statement .r8Sbimr := fun _ => reg_length _ _ _ _
theorem w8Sbimr : ∀ a0, Statement (.w8Sbimr a0) := fun _ => fun _ => reg_length _ _ _ _
theorem r8Mbimr : Statement .r8Mbimr := fun _ => reg_length _ _ _ _
theorem w8Mbimr : ∀ a0, Statement (.w8Mbimr a0) := fun _ => fun _ => reg_length _ _ _ _
theorem r8Isr : Statement .r8Isr := fun _ => reg_length _ _ _ _
theorem w8Isr : ∀ a0, Statement (.w8Isr a0) := fun _ => fun _ => reg_length _ _ _ _
theorem r8Sbisr : Statement .r8Sbisr := fun _ => reg_length _ _ _ _
theorem w8Sbisr : ∀ a0, Statement (.w8Sbisr a0) := fun _ => fun _ => reg_length _ _ _ _
theorem r8Mbisr : Statement .r8Mbisr := fun _ => reg_length _ _ _ _
theorem w8Mbisr : ∀ a0, Statement (.w8Mbisr a0) := fun _ => fun _ => reg_length _ _ _ _
theorem r8Icr : Statement .r8Icr := fun _ => reg_length _ _ _ _
theorem w8Icr : ∀ a0, Statement (.w8Icr a0) := fun _ => fun _ => reg_length _ _ _ _
theorem r8Sbicr : Statement .r8Sbicr := fun _ => reg_length _ _ _ _
theorem w8Sbicr : ∀ a0, Statement (.w8Sbicr a0) := fun _ => fun _ => reg_length _ _ _ _
theorem r8Mbicr : Statement .r8Mbicr := fun _ => reg_length _ _ _ _
theorem w8Mbicr : ∀ a0, Statement (.w8Mbicr a0) := fun _ => fun _ => reg_length _ _ _ _
theorem r8Ctrl : Statement .r8Ctrl := fun _ => reg_length _ _ _ _
theorem w8Ctrl : ∀ a0, Statement (.w8Ctrl a0) := fun _ => fun _ => reg_length _ _ _ _
theorem r8Sbcsr : Statement .r8Sbcsr := fun _ => reg_length _ _ _ _
theorem w8Sbcsr : ∀ a0, Statement (.w8Sbcsr a0) := fun _ => fun _ => reg_length _ _ _ _
theorem r8Mbcsr : Statement .r8Mbcsr := fun _ => reg_length _ _ _ _
theorem w8Mbcsr : ∀ a0, Statement (.w8Mbcsr a0) := fun _ => fun _ => reg_length _ _ _ _
theorem r8Clkr : Statement .r8Clkr := fun _ => reg_length _ _ _ _
theorem w8Clkr : ∀ a0, Statement (.w8Clkr a0) := fun _ => fun _ => reg_length _ _ _ _
theorem r32Datato : Statement .r32Datato := fun _ => reg_length _ _ _ _
theorem w32Datato : ∀ a0, Statement (.w32Datato a0) := fun _ => fun _ => reg_length _ _ _ _
theorem r16Blr : Statement .r16Blr := fun _ => reg_length _ _ _ _
theorem w16Blr : ∀ a0, Statement (.w16Blr a0) := fun _ => fun _ => reg_length _ _ _ _
theorem goIdleState : ∀ a0, Statement (.goIdleState a0) := fun _ => fun _ => cmd_length _ _
theorem sendOpCond : ∀ a0, Statement (.sendOpCond a0) := fun _ => fun _ => cmd_length _ _
theorem allSendCid : ∀ a0, Statement (.allSendCid a0) := fun _ => fun _ => cmd_length _ _
theorem setRelativeAddr : ∀ a0, Statement (.setRelativeAddr a0) := fun _ => fun _ => cmd_length _ _
theorem switch : ∀ a0, Statement (.switch a0) := fun _ => fun _ => cmd_length _ _
theorem selectCard : ∀ a0, Statement (.selectCard a0) := fun _ => fun _ => cmd_length _ _
theorem sendExtCsd : ∀ a0, Statement (.sendExtCsd a0) := fun _ => fun _ => cmd_length _ _
theorem stopTransmission : ∀ a0, Statement (.stopTransmission a0) := fun _ => fun _ => cmd_length _ _
theorem sendStatus : ∀ a0, Statement (.sendStatus a0) := fun _ => fun _ => cmd_length _ _
theorem readSingleBlock : ∀ a0, Statement (.readSingleBlock a0) := fun _ => fun _ => cmd_length _ _
theorem readMultipleBlock : ∀ a0, Statement (.readMultipleBlock a0) := fun _ => fun _ => cmd_length _ _
theorem setBlockCount : ∀ a0, Statement (.setBlockCount a0) := fun _ => fun _ => cmd_length _ _
theorem writeSingleBlock : ∀ a0, Statement (.writeSingleBlock a0) := fun _ => fun _ => cmd_length _ _
theorem writeMultipleBlock : ∀ a0, Statement (.writeMultipleBlock a0) := fun _ => fun _ => cmd_length _ _
theorem init : ∀ a0 a1 a2, Statement (.init a0 a1 a2) := fun _ _ _ => fun _ => op_length _ _ _ _ _ _ _
theorem sbw : ∀ a0 a1 a2, Statement (.sbw a0 a1 a2) := fun _ _ _ => fun _ => op_length _ _ _ _ _ _ _
theorem sbr : ∀ a0 a1 a2, Statement (.sbr a0 a1 a2) := fun _ _ _ => fun _ => op_length _ _ _ _ _ _ _
theorem sbwNb : ∀ a0 a1 a2 a3, Statement (.sbwNb a0 a1 a2 a3) := fun _ _ _ _ => fun _ => op_length _ _ _ _ _ _ _
theorem sbrNb : ∀ a0 a1 a2 a3, Statement (.sbrNb a0 a1 a2 a3) := fun _ _ _ _ => fun _ => op_length _ _ _ _ _ _ _
theorem mbw : ∀ a0 a1 a2 a3 a4, Statement (.mbw a0 a1 a2 a3 a4) := fun _ _ _ _ _ => fun _ => op_length _ _ _ _ _ _ _
theorem mbr : ∀ a0 a1 a2 a3 a4, Statement (.mbr a0 a1 a2 a3 a4) := fun _ _ _ _ _ => fun _ => op_length _ _ _ _ _ _ _
theorem status : ∀ a0 a1, Statement (.status a0 a1) := fun _ _ => fun _ => op_length _ _ _ _ _ _ _
theorem isr : ∀ a0, Statement (.isr a0) := fun _ => fun _ => op_length _ _ _ _ _ _ _
theorem initFifo : ∀ a0, Statement (.initFifo a0) := fun _ => fun _ => op_length _ _ _ _ _ _ _
theorem wfifoAddr : ∀ a0, Statement (.wfifoAddr a0) := fun _ => fun _ => op_length _ _ _ _ _ _ _
theorem rfifoAddr : ∀ a0, Statement (.rfifoAddr a0) := fun _ => fun _ => op_length _ _ _ _ _ _ _
theorem sendCommand : ∀ a0 a1 a2 a3, Statement (.sendCommand a0 a1 a2 a3) := fun _ _ _ _ => fun _ => op_length _ _ _ _ _ _ _
theorem issueCommand : ∀ a0 a1 a2, Statement (.issueCommand a0 a1 a2) := fun _ _ _ => fun _ => op_length _ _ _ _ _ _ _

end Sys2Proof.Laws.EncodeLength
end

