-- ==== Sys2Proof/Laws/Run.lean ====
section
/-! SUPPORT. Runs of many steps, which agent a step belongs to, and the step sequences every operation shares. -/

namespace Sys2Proof.Machine

/-! ### Runs -/

@[simp] theorem run_zero (s : State) : run 0 s = .next s := rfl

theorem run_succ (n : Nat) (s : State) :
    run (n + 1) s = match step s with
      | .next t => run n t
      | .fault r => .fault r
      | .refused r => .refused r := rfl

theorem run_next {n : Nat} {s t : State} (h : step s = .next t) : run (n + 1) s = run n t := by
  simp only [run_succ, h]

theorem run_refused {n : Nat} {s : State} {r : Refusal} (h : step s = .refused r) : run (n + 1) s = .refused r := by
  simp only [run_succ, h]

/-- A run cut in two. -/
theorem run_add {m n : Nat} {s t : State} (h : run m s = .next t) : run (m + n) s = run n t := by
  induction m generalizing s with
  | zero =>
    cases h
    rw [Nat.zero_add]
  | succ k ih =>
    rw [show k + 1 + n = (k + n) + 1 by omega, run_succ]
    rw [run_succ] at h
    cases hs : step s with
    | next u =>
      rw [hs] at h
      exact ih h
    | fault r =>
      rw [hs] at h
      cases h
    | refused r =>
      rw [hs] at h
      cases h

/-! ### Whose step it is -/

/-- With no turn given and no delivery, the step is ENGINE's. -/
theorem step_eq_engineStep {s : State} (hf : s.faulted = none) (ha : s.agenda = []) (hd : s.disp = none) :
    step s = engineStep s := by
  simp [step, takeStep, hf, ha, background, hd]

/-- With no turn given and a delivery in progress, the step is DISPATCHER's. -/
theorem step_eq_dispatcherStep {s : State} (hf : s.faulted = none) (ha : s.agenda = []) (hd : s.disp ≠ none) :
    step s = dispatcherStep s := by
  cases h : s.disp with
  | none => exact absurd h hd
  | some c => simp [step, takeStep, hf, ha, background, h]

/-- An engine turn, with no delivery in progress. -/
theorem step_engine_turn {s : State} {rest : List Turn} (hf : s.faulted = none) (ha : s.agenda = .engine :: rest)
    (hd : s.disp = none) : step s = engineStep (s.setAgenda rest) := by
  simp [step, takeStep, hf, ha, takeTurn, hd]

/-- HOST's own call of `isr`, with no delivery in progress: the entry, whatever ENGINE has in progress and whatever `irq` is. -/
theorem step_hostIsr_turn {s : State} {iv : Bool} {rest : List Turn} (hf : s.faulted = none)
    (ha : s.agenda = .hostIsr iv :: rest) (hd : s.disp = none) : step s = enterInterrupt iv (s.setAgenda rest) := by
  simp [step, takeStep, hf, ha, takeTurn, hd, exec, execIsr]

/-- An event that is enabled. -/
theorem step_event_turn {s t : State} {e : Event} {rest : List Turn} (hf : s.faulted = none)
    (ha : s.agenda = .event e :: rest) (h : controllerStep e (s.setAgenda rest) = some t) : step s = .next t := by
  simp [step, takeStep, hf, ha, takeTurn, h]

/-! ### One step of a context -/

/-- A step that is not the last planned one. -/
theorem ctxStep_more {m m' : Micro} {rest : List Micro} {p : Point} {l l' : Locals} {s t : State}
    (h : microStep m l s = .next [] l' t) :
    ctxStep ⟨m :: m' :: rest, p, l⟩ s = .running ⟨m' :: rest, p, l'⟩ t := by
  simp [ctxStep, h]

/-- A step that stays, or is replaced by others. -/
theorem ctxStep_stay {m m' : Micro} {more rest : List Micro} {p : Point} {l l' : Locals} {s t : State}
    (h : microStep m l s = .next (m' :: more) l' t) :
    ctxStep ⟨m :: rest, p, l⟩ s = .running ⟨m' :: (more ++ rest), p, l'⟩ t := by
  simp [ctxStep, h]

/-- The last planned step: the test at the point is made with it. -/
theorem ctxStep_last {m : Micro} {p : Point} {l l' : Locals} {s t : State} (h : microStep m l s = .next [] l' t) :
    ctxStep ⟨[m], p, l⟩ s = settle p l' t := by
  simp [ctxStep, h]

theorem engineStep_running {s t : State} {c c' : Ctx} (he : s.engine = some c) (h : ctxStep c s = .running c' t) :
    engineStep s = .next (t.setEngine (some c')) := by
  simp [engineStep, he, h]

theorem engineStep_finished {s t : State} {c : Ctx} {v : Option Ret} (he : s.engine = some c)
    (h : ctxStep c s = .finished v t) : engineStep s = .next ((t.setEngine none).setResult v) := by
  simp [engineStep, he, h]

theorem dispatcherStep_running {s t : State} {c c' : Ctx} (hd : s.disp = some c) (h : ctxStep c s = .running c' t) :
    dispatcherStep s = .next (t.setDisp (some c')) := by
  simp [dispatcherStep, hd, h]

theorem dispatcherStep_finished {s t : State} {c : Ctx} {v : Option Ret} (hd : s.disp = some c)
    (h : ctxStep c s = .finished v t) : dispatcherStep s = .next (t.setDisp none) := by
  simp [dispatcherStep, hd, h, leaveInterrupt]

/-! ### The snapshot of a delivery -/

/-- The locals after the three snapshot reads (45_interrupt_state_machine.md rule R235). -/
def snapshotLocals (s : State) : Locals :=
  { Locals.start with snapC := s.regs.isr, snapS := s.regs.sbisr, snapM := s.regs.mbisr }

/-- A later delivery position replaces the earlier one. -/
@[simp] theorem setDisp_setDisp (s : State) (c d : Option Ctx) : (s.setDisp c).setDisp d = s.setDisp d := rfl

/-- `dispatch` does not look at DISPATCHER's position. -/
@[simp] theorem dispatch_setDisp (l : Locals) (s : State) (c : Option Ctx) :
    dispatch l (s.setDisp c) = dispatch l s := by
  simp only [dispatch, State.setDisp_st, finishAbort]

/-- Nor does a checkpoint. -/
@[simp] theorem checkpoint_setDisp (x : Chain) (k : ChainStep) (l : Locals) (s : State) (c : Option Ctx) :
    checkpoint x k l (s.setDisp c) = checkpoint x k l s := rfl

/-- Three steps take the snapshot and make the dispatch. -/
theorem run_snapshot (n : Nat) (s : State) (hf : s.faulted = none) (ha : s.agenda = []) :
    run (3 + n) (s.setDisp (some Ctx.deliveryStart)) =
      match dispatch (snapshotLocals s) s with
      | .run todo p l => run n (s.setDisp (some ⟨todo, p, l⟩))
      | .finish _ => run n (s.setDisp none) := by
  rw [show 3 + n = n + 1 + 1 + 1 by omega]
  simp only [run_succ, step, takeStep, State.setDisp_faulted, hf, State.setDisp_agenda, ha, background,
    State.setDisp_disp, Option.isSome_some, if_true, dispatcherStep, Ctx.deliveryStart, ctxStep, microStep, readByte,
    readReg, lowByte_zext, List.nil_append, State.setDisp_regs, settle, continueAt, setDisp_setDisp, dispatch_setDisp]
  simp only [snapshotLocals]
  cases dispatch _ s <;> rfl

/-! ### The payload of a response -/

/-- The four bytes, appended one by one, are the card status (41_command_interface.md rule R168). -/
theorem payload_after_reads (s : State) (p : Word) :
    appendByte (appendByte (appendByte (appendByte p s.regs.rr.rr1) s.regs.rr.rr2) s.regs.rr.rr3) s.regs.rr.rr4
      = s.cardStatus := by
  simp only [appendByte, State.cardStatus]
  exact payload_of_bytes p _ _ _ _

/-- Reading a response register by its number. -/
@[simp] theorem readReg_rr (n : Fin 17) (s : State) : readReg (.rr n) s = ((s.regs.rr.get n).zext, s) := rfl

theorem get_one (r : RespRegs) : r.get 1 = r.rr1 := rfl
theorem get_two (r : RespRegs) : r.get 2 = r.rr2 := rfl
theorem get_three (r : RespRegs) : r.get 3 = r.rr3 := rfl
theorem get_four (r : RespRegs) : r.get 4 = r.rr4 := rfl

/-- Four steps of a delivery read the card status and make the checkpoint's test
(45_interrupt_state_machine.md rules R242 to R244). -/
theorem run_checkpoint (n : Nat) (s : State) (x : Chain) (k : ChainStep) (l : Locals) (hf : s.faulted = none)
    (ha : s.agenda = []) :
    run (4 + n) (s.setDisp (some ⟨readPayload32, .checkpoint x k, l⟩)) =
      match checkpoint x k { l with payload := s.cardStatus } s with
      | .run todo p l => run n (s.setDisp (some ⟨todo, p, l⟩))
      | .finish _ => run n (s.setDisp none) := by
  rw [show 4 + n = n + 1 + 1 + 1 + 1 by omega, ← payload_after_reads s l.payload]
  simp only [run_succ, step, takeStep, State.setDisp_faulted, hf, State.setDisp_agenda, ha, background,
    State.setDisp_disp, Option.isSome_some, if_true, dispatcherStep, readPayload32, ctxStep, microStep, readByte,
    readReg_rr, lowByte_zext, List.nil_append, State.setDisp_regs, settle, continueAt, setDisp_setDisp,
    checkpoint_setDisp, get_one, get_two, get_three, get_four]
  cases checkpoint x k _ s <;> rfl

end Sys2Proof.Machine
end

