-- ==== Sys2Proof/Tests/Slice0.lean ====
section
/-! SUPPORT. Tests: what `WellFormed` refuses, the decoding of every constructor from a packet written out from the spec,
single steps from 95_test_vectors.md, and for every obligation with hypotheses a state and operands that meet them. -/

namespace Sys2Proof.Tests

open Sys2Proof.Machine

/-! ### What `WellFormed` refuses (41_command_interface.md rules R151 to R165) -/

theorem test_wf_go_idle_argument : (Instr.goIdleState 1).wellFormed = false := by decide
theorem test_wf_all_send_cid_argument : (Instr.allSendCid 0x80000000).wellFormed = false := by decide
theorem test_wf_set_relative_addr_low_half : (Instr.setRelativeAddr 0x00010001).wellFormed = false := by decide
theorem test_wf_switch_access : (Instr.switch 0x02B70100).wellFormed = false := by decide
theorem test_wf_switch_high_bits : (Instr.switch 0x07B70100).wellFormed = false := by decide
theorem test_wf_switch_low_byte : (Instr.switch 0x03B70101).wellFormed = false := by decide
theorem test_wf_select_card_low_half : (Instr.selectCard 0x00018000).wellFormed = false := by decide
theorem test_wf_send_ext_csd_argument : (Instr.sendExtCsd 0xFFFFFFFF).wellFormed = false := by decide
theorem test_wf_stop_transmission_argument : (Instr.stopTransmission 1).wellFormed = false := by decide
theorem test_wf_send_status_low_half : (Instr.sendStatus 1).wellFormed = false := by decide
theorem test_wf_set_block_count_high_half : (Instr.setBlockCount 0x00010000).wellFormed = false := by decide
theorem test_wf_send_command_index : (Instr.sendCommand true 0 5#6 .poll).wellFormed = false := by decide
theorem test_wf_issue_command_index : (Instr.issueCommand true 0 26#6).wellFormed = false := by decide

/-- The argument patterns admit what the block sends (95_test_vectors.md table 2.2). -/
theorem test_wf_table_2_2 :
    ∀ i ∈ [Instr.goIdleState 0, .sendOpCond 0x40FF8080, .allSendCid 0, .setRelativeAddr 0x00010000, .switch 0x03B70100,
      .switch 0x03B90100, .selectCard 0x00010000, .sendExtCsd 0, .stopTransmission 0, .sendStatus 0xABCD0000,
      .readSingleBlock 0x1234, .readMultipleBlock 8, .setBlockCount 0xFFFF, .writeSingleBlock 0xFFFFFFFF,
      .writeMultipleBlock 8, .sendCommand true 0 13#6 .poll, .issueCommand true 0 0#6],
      i.wellFormed = true := by decide

theorem test_cfg_reference : Config.reference.wellFormed = true := by decide
theorem test_cfg_supported_rev : ({ Config.reference with supportedRev := [] } : Cfg).wellFormed = false := by decide
theorem test_cfg_rca : ({ Config.reference with rca := 0 } : Cfg).wellFormed = false := by decide
theorem test_cfg_fifo_depth0 : ({ Config.reference with fifoDepth0 := 127 } : Cfg).wellFormed = false := by decide
theorem test_cfg_fifo_depth1 : ({ Config.reference with fifoDepth1 := 127 } : Cfg).wellFormed = false := by decide
theorem test_cfg_fifo_depth2 : ({ Config.reference with fifoDepth2 := 127 } : Cfg).wellFormed = false := by decide
theorem test_cfg_fifo_depth3 : ({ Config.reference with fifoDepth3 := 127 } : Cfg).wellFormed = false := by decide
theorem test_cfg_window : ({ Config.reference with base := 0xFFFFFFAF } : Cfg).wellFormed = false := by decide
theorem test_cfg_r1_ready_bit : ({ Config.reference with r1ReadyBit := 32 } : Cfg).wellFormed = false := by decide
theorem test_cfg_r1_state_order : ({ Config.reference with r1StateLo := 13 } : Cfg).wellFormed = false := by decide
theorem test_cfg_r1_state_hi : ({ Config.reference with r1StateHi := 32 } : Cfg).wellFormed = false := by decide
theorem test_cfg_ocr_ready_bit : ({ Config.reference with ocrReadyBit := 32 } : Cfg).wellFormed = false := by decide
theorem test_cfg_ocr_mode_order : ({ Config.reference with ocrModeLo := 31 } : Cfg).wellFormed = false := by decide
theorem test_cfg_ocr_mode_hi : ({ Config.reference with ocrModeHi := 32 } : Cfg).wellFormed = false := by decide
theorem test_cfg_sec_count : ({ Config.reference with extCsdSecCount := 509 } : Cfg).wellFormed = false := by decide
theorem test_cfg_card_type : ({ Config.reference with extCsdCardType := 512 } : Cfg).wellFormed = false := by decide

theorem test_cfg_offsets_overlap :
    ({ Config.reference with off := { Config.offsetTable with clkr := 0x4B } } : Cfg).wellFormed = false := by decide
theorem test_cfg_offsets_misaligned :
    ({ Config.reference with off := { Config.offsetTable with datato := 0x4A } } : Cfg).wellFormed = false := by decide
theorem test_cfg_offsets_outside :
    ({ Config.reference with off := { Config.offsetTable with clkr := 0x52 } } : Cfg).wellFormed = false := by decide
theorem test_cfg_no_words : ({ Config.reference with blockWords := 0, sectorBytes := 0 } : Cfg).wellFormed = false := by decide
theorem test_cfg_block_is_a_sector : ({ Config.reference with blockWords := 127 } : Cfg).wellFormed = false := by decide
theorem test_cfg_no_tick_bits : ({ Config.reference with tickBits := 0 } : Cfg).wellFormed = false := by decide
theorem test_cfg_hs_timing :
    ({ Config.reference with blockWords := 54, sectorBytes := 216, extCsdHsTiming := 216 } : Cfg).wellFormed = false := by decide
theorem test_cfg_bus_width :
    ({ Config.reference with blockWords := 54, sectorBytes := 216, extCsdBusWidth := 216 } : Cfg).wellFormed = false := by decide

/-- Another well-formed configuration: a smaller block, 16-bit ticks, two registers elsewhere. -/
def elsewhere : Cfg :=
  { Config.reference with
    off := { Config.offsetTable with clkr := 0x1A, datato := 0x4C }, blockWords := 54, sectorBytes := 216, tickBits := 16 }

theorem test_cfg_elsewhere : elsewhere.wellFormed = true := by decide

def bigEndian : Cfg := { Config.reference with littleEndian := false }

/-! ### Decoding, one packet for every constructor, the bytes written out from 30_encoding.md and the opcode table -/

/-- Reads of the 43 registers: the read headers of the opcode table and of 95_test_vectors.md table 2.1, little-endian, the
data word zero. -/
def readPackets1 : List (List Byte × Instr) :=
  [([0x00, 0x00, 0x00, 0x00, 0x00, 0x00], .r8Sr),
   ([0x01, 0x00, 0x00, 0x00, 0x00, 0x00], .r8Vr),
   ([0x02, 0x00, 0x00, 0x00, 0x00, 0x00], .r8Mjvr),
   ([0x03, 0x00, 0x00, 0x00, 0x00, 0x00], .r8Mivr),
   ([0x04, 0x00, 0x00, 0x00, 0x00, 0x00], .r8Cmdx),
   ([0x05, 0x00, 0x00, 0x00, 0x00, 0x00], .r8Arg1),
   ([0x06, 0x00, 0x00, 0x00, 0x00, 0x00], .r8Arg2),
   ([0x07, 0x00, 0x00, 0x00, 0x00, 0x00], .r8Arg3),
   ([0x08, 0x00, 0x00, 0x00, 0x00, 0x00], .r8Arg4),
   ([0x09, 0x00, 0x00, 0x00, 0x00, 0x00], .r8Rr0),
   ([0x0A, 0x00, 0x00, 0x00, 0x00, 0x00], .r8Rr1),
   ([0x0B, 0x00, 0x00, 0x00, 0x00, 0x00], .r8Rr2),
   ([0x0C, 0x00, 0x00, 0x00, 0x00, 0x00], .r8Rr3),
   ([0x0D, 0x00, 0x00, 0x00, 0x00, 0x00], .r8Rr4),
   ([0x0E, 0x00, 0x00, 0x00, 0x00, 0x00], .r8Rr5)]

def readPackets2 : List (List Byte × Instr) :=
  [([0x0F, 0x00, 0x00, 0x00, 0x00, 0x00], .r8Rr6),
   ([0x10, 0x00, 0x00, 0x00, 0x00, 0x00], .r8Rr7),
   ([0x11, 0x00, 0x00, 0x00, 0x00, 0x00], .r8Rr8),
   ([0x12, 0x00, 0x00, 0x00, 0x00, 0x00], .r8Rr9),
   ([0x13, 0x00, 0x00, 0x00, 0x00, 0x00], .r8Rr10),
   ([0x14, 0x00, 0x00, 0x00, 0x00, 0x00], .r8Rr11),
   ([0x15, 0x00, 0x00, 0x00, 0x00, 0x00], .r8Rr12),
   ([0x16, 0x00, 0x00, 0x00, 0x00, 0x00], .r8Rr13),
   ([0x17, 0x00, 0x00, 0x00, 0x00, 0x00], .r8Rr14),
   ([0x18, 0x00, 0x00, 0x00, 0x00, 0x00], .r8Rr15),
   ([0x19, 0x00, 0x00, 0x00, 0x00, 0x00], .r8Rr16),
   ([0x1C, 0x40, 0x00, 0x00, 0x00, 0x00], .r32Wdr),
   ([0x20, 0x40, 0x00, 0x00, 0x00, 0x00], .r32Rdr),
   ([0x24, 0x00, 0x00, 0x00, 0x00, 0x00], .r8Imr),
   ([0x25, 0x00, 0x00, 0x00, 0x00, 0x00], .r8Sbimr)]

def readPackets3 : List (List Byte × Instr) :=
  [([0x26, 0x00, 0x00, 0x00, 0x00, 0x00], .r8Mbimr),
   ([0x28, 0x00, 0x00, 0x00, 0x00, 0x00], .r8Isr),
   ([0x29, 0x00, 0x00, 0x00, 0x00, 0x00], .r8Sbisr),
   ([0x2A, 0x00, 0x00, 0x00, 0x00, 0x00], .r8Mbisr),
   ([0x2C, 0x00, 0x00, 0x00, 0x00, 0x00], .r8Icr),
   ([0x2D, 0x00, 0x00, 0x00, 0x00, 0x00], .r8Sbicr),
   ([0x2E, 0x00, 0x00, 0x00, 0x00, 0x00], .r8Mbicr),
   ([0x30, 0x00, 0x00, 0x00, 0x00, 0x00], .r8Ctrl),
   ([0x34, 0x00, 0x00, 0x00, 0x00, 0x00], .r8Sbcsr),
   ([0x38, 0x00, 0x00, 0x00, 0x00, 0x00], .r8Mbcsr),
   ([0x40, 0x00, 0x00, 0x00, 0x00, 0x00], .r8Clkr),
   ([0x48, 0x40, 0x00, 0x00, 0x00, 0x00], .r32Datato),
   ([0x50, 0x20, 0x00, 0x00, 0x00, 0x00], .r16Blr)]

theorem test_decode_reads_1 : ∀ p ∈ readPackets1, decode Config.reference p.1 = .instr p.2 := by decide

theorem test_decode_reads_2 : ∀ p ∈ readPackets2, decode Config.reference p.1 = .instr p.2 := by decide

theorem test_decode_reads_3 : ∀ p ∈ readPackets3, decode Config.reference p.1 = .instr p.2 := by decide

/-- Writes of the 43 registers: the write headers, with a value of the register's width. -/
def writePackets1 : List (List Byte × Instr) :=
  [([0x00, 0x80, 0xA0, 0x00, 0x00, 0x00], .w8Sr 0xA0),
   ([0x01, 0x80, 0xA1, 0x00, 0x00, 0x00], .w8Vr 0xA1),
   ([0x02, 0x80, 0xA2, 0x00, 0x00, 0x00], .w8Mjvr 0xA2),
   ([0x03, 0x80, 0xA3, 0x00, 0x00, 0x00], .w8Mivr 0xA3),
   ([0x04, 0x80, 0xA4, 0x00, 0x00, 0x00], .w8Cmdx 0xA4),
   ([0x05, 0x80, 0xA5, 0x00, 0x00, 0x00], .w8Arg1 0xA5),
   ([0x06, 0x80, 0xA6, 0x00, 0x00, 0x00], .w8Arg2 0xA6),
   ([0x07, 0x80, 0xA7, 0x00, 0x00, 0x00], .w8Arg3 0xA7),
   ([0x08, 0x80, 0xA8, 0x00, 0x00, 0x00], .w8Arg4 0xA8),
   ([0x09, 0x80, 0xA9, 0x00, 0x00, 0x00], .w8Rr0 0xA9),
   ([0x0A, 0x80, 0xAA, 0x00, 0x00, 0x00], .w8Rr1 0xAA),
   ([0x0B, 0x80, 0xAB, 0x00, 0x00, 0x00], .w8Rr2 0xAB),
   ([0x0C, 0x80, 0xAC, 0x00, 0x00, 0x00], .w8Rr3 0xAC),
   ([0x0D, 0x80, 0xAD, 0x00, 0x00, 0x00], .w8Rr4 0xAD),
   ([0x0E, 0x80, 0xAE, 0x00, 0x00, 0x00], .w8Rr5 0xAE)]

def writePackets2 : List (List Byte × Instr) :=
  [([0x0F, 0x80, 0xAF, 0x00, 0x00, 0x00], .w8Rr6 0xAF),
   ([0x10, 0x80, 0xB0, 0x00, 0x00, 0x00], .w8Rr7 0xB0),
   ([0x11, 0x80, 0xB1, 0x00, 0x00, 0x00], .w8Rr8 0xB1),
   ([0x12, 0x80, 0xB2, 0x00, 0x00, 0x00], .w8Rr9 0xB2),
   ([0x13, 0x80, 0xB3, 0x00, 0x00, 0x00], .w8Rr10 0xB3),
   ([0x14, 0x80, 0xB4, 0x00, 0x00, 0x00], .w8Rr11 0xB4),
   ([0x15, 0x80, 0xB5, 0x00, 0x00, 0x00], .w8Rr12 0xB5),
   ([0x16, 0x80, 0xB6, 0x00, 0x00, 0x00], .w8Rr13 0xB6),
   ([0x17, 0x80, 0xB7, 0x00, 0x00, 0x00], .w8Rr14 0xB7),
   ([0x18, 0x80, 0xB8, 0x00, 0x00, 0x00], .w8Rr15 0xB8),
   ([0x19, 0x80, 0xB9, 0x00, 0x00, 0x00], .w8Rr16 0xB9),
   ([0x1C, 0xC0, 0x1C, 0xCD, 0xAB, 0x89], .w32Wdr 0x89ABCD1C),
   ([0x20, 0xC0, 0x20, 0xCD, 0xAB, 0x89], .w32Rdr 0x89ABCD20),
   ([0x24, 0x80, 0x84, 0x00, 0x00, 0x00], .w8Imr 0x84),
   ([0x25, 0x80, 0x85, 0x00, 0x00, 0x00], .w8Sbimr 0x85)]

def writePackets3 : List (List Byte × Instr) :=
  [([0x26, 0x80, 0x86, 0x00, 0x00, 0x00], .w8Mbimr 0x86),
   ([0x28, 0x80, 0x88, 0x00, 0x00, 0x00], .w8Isr 0x88),
   ([0x29, 0x80, 0x89, 0x00, 0x00, 0x00], .w8Sbisr 0x89),
   ([0x2A, 0x80, 0x8A, 0x00, 0x00, 0x00], .w8Mbisr 0x8A),
   ([0x2C, 0x80, 0x8C, 0x00, 0x00, 0x00], .w8Icr 0x8C),
   ([0x2D, 0x80, 0x8D, 0x00, 0x00, 0x00], .w8Sbicr 0x8D),
   ([0x2E, 0x80, 0x8E, 0x00, 0x00, 0x00], .w8Mbicr 0x8E),
   ([0x30, 0x80, 0x90, 0x00, 0x00, 0x00], .w8Ctrl 0x90),
   ([0x34, 0x80, 0x94, 0x00, 0x00, 0x00], .w8Sbcsr 0x94),
   ([0x38, 0x80, 0x98, 0x00, 0x00, 0x00], .w8Mbcsr 0x98),
   ([0x40, 0x80, 0xE0, 0x00, 0x00, 0x00], .w8Clkr 0xE0),
   ([0x48, 0xC0, 0x48, 0xCD, 0xAB, 0x89], .w32Datato 0x89ABCD48),
   ([0x50, 0xA0, 0x5A, 0xA5, 0x00, 0x00], .w16Blr 0xA55A)]

theorem test_decode_writes_1 : ∀ p ∈ writePackets1, decode Config.reference p.1 = .instr p.2 := by decide

theorem test_decode_writes_2 : ∀ p ∈ writePackets2, decode Config.reference p.1 = .instr p.2 := by decide

theorem test_decode_writes_3 : ∀ p ∈ writePackets3, decode Config.reference p.1 = .instr p.2 := by decide

/-- The fourteen commands: the 40-bit patterns of the opcode table, the letters replaced by bits. -/
def commandPackets1 : List (List Byte × Instr) :=
  [([0x00, 0x00, 0x00, 0x00, 0x00], .goIdleState 0x00000000),
   ([0x01, 0xA5, 0xC3, 0xA5, 0xC3], .sendOpCond 0xA5C3A5C3),
   ([0x02, 0x00, 0x00, 0x00, 0x00], .allSendCid 0x00000000),
   ([0x03, 0xA5, 0xC3, 0x00, 0x00], .setRelativeAddr 0xA5C30000),
   ([0x06, 0x03, 0xA5, 0xC3, 0x00], .switch 0x03A5C300),
   ([0x07, 0xA5, 0xC3, 0x00, 0x00], .selectCard 0xA5C30000),
   ([0x08, 0x00, 0x00, 0x00, 0x00], .sendExtCsd 0x00000000),
   ([0x0C, 0x00, 0x00, 0x00, 0x00], .stopTransmission 0x00000000),
   ([0x0D, 0xA5, 0xC3, 0x00, 0x00], .sendStatus 0xA5C30000),
   ([0x11, 0xA5, 0xC3, 0xA5, 0xC3], .readSingleBlock 0xA5C3A5C3),
   ([0x12, 0xA5, 0xC3, 0xA5, 0xC3], .readMultipleBlock 0xA5C3A5C3),
   ([0x17, 0x00, 0x00, 0xA5, 0xC3], .setBlockCount 0x0000A5C3),
   ([0x18, 0xA5, 0xC3, 0xA5, 0xC3], .writeSingleBlock 0xA5C3A5C3),
   ([0x19, 0xA5, 0xC3, 0xA5, 0xC3], .writeMultipleBlock 0xA5C3A5C3)]

theorem test_decode_commands_1 : ∀ p ∈ commandPackets1, decode Config.reference p.1 = .instr p.2 := by decide

/-- The fourteen operations: `op`, `iv` alternating, and the operands of 30_encoding.md rule R95, little-endian. -/
def requestPackets1 : List (List Byte × Instr) :=
  [([0x01, 0x01, 0x7C, 0x00, 0x00, 0x00, 0x04, 0x00, 0x00, 0x00, 0x00, 0x00, 0x00, 0x00, 0x00, 0x00, 0x00, 0x00],
     .init true 0x7C 0x4),
   ([0x02, 0x00, 0x44, 0x33, 0x22, 0x11, 0x88, 0x77, 0x66, 0x55, 0x00, 0x00, 0x00, 0x00, 0x00, 0x00, 0x00, 0x00],
     .sbw false 0x11223344 0x55667788),
   ([0x03, 0x01, 0x44, 0x33, 0x22, 0x11, 0x88, 0x77, 0x66, 0x55, 0x00, 0x00, 0x00, 0x00, 0x00, 0x00, 0x00, 0x00],
     .sbr true 0x11223344 0x55667788),
   ([0x04, 0x00, 0x44, 0x33, 0x22, 0x11, 0x88, 0x77, 0x66, 0x55, 0xCC, 0xBB, 0xAA, 0x99, 0x00, 0x00, 0x00, 0x00],
     .sbwNb false 0x11223344 0x55667788 0x99AABBCC),
   ([0x05, 0x01, 0x44, 0x33, 0x22, 0x11, 0x88, 0x77, 0x66, 0x55, 0xCC, 0xBB, 0xAA, 0x99, 0x00, 0x00, 0x00, 0x00],
     .sbrNb true 0x11223344 0x55667788 0x99AABBCC),
   ([0x06, 0x00, 0x44, 0x33, 0x22, 0x11, 0xEF, 0xBE, 0x00, 0x00, 0xCC, 0xBB, 0xAA, 0x99, 0x01, 0xFF, 0xEE, 0xDD],
     .mbw false 0x11223344 0xBEEF 0x99AABBCC 0xDDEEFF01),
   ([0x07, 0x01, 0x44, 0x33, 0x22, 0x11, 0xEF, 0xBE, 0x00, 0x00, 0xCC, 0xBB, 0xAA, 0x99, 0x01, 0xFF, 0xEE, 0xDD],
     .mbr true 0x11223344 0xBEEF 0x99AABBCC 0xDDEEFF01),
   ([0x08, 0x00, 0x44, 0x33, 0x22, 0x11, 0x00, 0x00, 0x00, 0x00, 0x00, 0x00, 0x00, 0x00, 0x00, 0x00, 0x00, 0x00],
     .status false 0x11223344),
   ([0x09, 0x01, 0x00, 0x00, 0x00, 0x00, 0x00, 0x00, 0x00, 0x00, 0x00, 0x00, 0x00, 0x00, 0x00, 0x00, 0x00, 0x00],
     .isr true),
   ([0x0A, 0x00, 0x00, 0x00, 0x00, 0x00, 0x00, 0x00, 0x00, 0x00, 0x00, 0x00, 0x00, 0x00, 0x00, 0x00, 0x00, 0x00],
     .initFifo false),
   ([0x0B, 0x01, 0x00, 0x00, 0x00, 0x00, 0x00, 0x00, 0x00, 0x00, 0x00, 0x00, 0x00, 0x00, 0x00, 0x00, 0x00, 0x00],
     .wfifoAddr true),
   ([0x0C, 0x00, 0x00, 0x00, 0x00, 0x00, 0x00, 0x00, 0x00, 0x00, 0x00, 0x00, 0x00, 0x00, 0x00, 0x00, 0x00, 0x00],
     .rfifoAddr false),
   ([0x0D, 0x01, 0x44, 0x33, 0x22, 0x11, 0x0D, 0x00, 0x00, 0x00, 0x01, 0x00, 0x00, 0x00, 0x00, 0x00, 0x00, 0x00],
     .sendCommand true 0x11223344 0xD .isrCheck),
   ([0x0E, 0x00, 0x44, 0x33, 0x22, 0x11, 0x0D, 0x00, 0x00, 0x00, 0x00, 0x00, 0x00, 0x00, 0x00, 0x00, 0x00, 0x00],
     .issueCommand false 0x11223344 0xD)]

theorem test_decode_requests_1 : ∀ p ∈ requestPackets1, decode Config.reference p.1 = .instr p.2 := by decide

/-- Big-endian order moves the bytes of headers and operands (20_memory.md rule R62), never those of a command. -/
theorem test_decode_big_endian :
    decode bigEndian [0x80, 0x2C, 0x00, 0x00, 0x00, 0xFF] = .instr (.w8Icr 0xFF)
    ∧ decode bigEndian [0x0D, 0x00, 0x01, 0x00, 0x00] = .instr (.sendStatus 0x00010000)
    ∧ decode bigEndian [0x08, 0x01, 0x11, 0x22, 0x33, 0x44, 0, 0, 0, 0, 0, 0, 0, 0, 0, 0, 0, 0] = .instr (.status true 0x11223344) := by
  decide

/-- 95_test_vectors.md table 2.1, last line: `R32 ISR`, `R8 WDR`, `R8 0x52`. -/
theorem test_decode_bad_transactions :
    decode Config.reference [0x28, 0x40, 0, 0, 0, 0] = .rejected .badTransaction
    ∧ decode Config.reference [0x1C, 0x00, 0, 0, 0, 0] = .rejected .badTransaction
    ∧ decode Config.reference [0x52, 0x00, 0, 0, 0, 0] = .rejected .badTransaction := by decide

/-- A reserved offset is admitted (40_register_model.md rule R126). -/
theorem test_decode_reserved_offset : decode Config.reference [0x27, 0x00, 0, 0, 0, 0] = .reserved false 0x27 := by decide

/-- The offset table is `cfg.OFF` (00_scope.md rule R5): a moved register is found where it stands, its old place is
reserved. -/
theorem test_decode_moved_register :
    decode elsewhere [0x1A, 0x80, 0x04, 0, 0, 0] = .instr (.w8Clkr 0x04)
    ∧ decode elsewhere [0x40, 0x00, 0, 0, 0, 0] = .reserved false 0x40
    ∧ decode elsewhere [0x48, 0x40, 0, 0, 0, 0] = .rejected .badTransaction := by decide

/-- At the default offsets the reserved ones are the list of 10_state.md rule R44. -/
theorem test_reserved_offsets :
    (List.range 128).filter (fun n => isReservedOffset Config.offsetTable (BitVec.ofNat 7 n))
      = [0x1A, 0x1B, 0x27, 0x2B, 0x2F, 0x31, 0x32, 0x33, 0x35, 0x36, 0x37, 0x39, 0x3A, 0x3B, 0x3C, 0x3D, 0x3E, 0x3F, 0x41, 0x42,
        0x43, 0x44, 0x45, 0x46, 0x47, 0x4C, 0x4D, 0x4E, 0x4F] := by decide

/-- An unknown command, an unknown operation and a packet of no format (30_encoding.md rules R98, R100). -/
theorem test_decode_rejected :
    decode Config.reference [0x05, 0, 0, 0, 0] = .rejected .unknownIndex
    ∧ decode Config.reference [0x0F, 1, 0, 0, 0, 0, 0, 0, 0, 0, 0, 0, 0, 0, 0, 0, 0, 0] = .rejected .badRequest
    ∧ decode Config.reference [0x00, 0x00] = .rejected .badRequest := by decide

/-- Opcode-table words: a header, a 40-bit command, an operation byte. -/
theorem test_table_words :
    decodeTableWord 16 0x8030 = some (.w8Ctrl 0) ∧ decodeTableWord 40 0x1100001234 = some (.readSingleBlock 0x1234)
    ∧ decodeTableWord 8 0x0A = some (.initFifo false) := by decide

/-! ### Small states -/

/-- Initialized, nothing in progress. -/
def ready : State :=
  { State.reset with
    initialised := true
    initExited := true
    st := { State.reset.st with errState := .initSuccess, tempErr := .initSuccess } }

/-- The controller half replaced. -/
def withRegs (r : Regs) : State := { ready with regs := r }

def withHid (h : Hidden) : State := { ready with hid := h }

/-- The state after one instruction, where there is one. -/
def after (o : Host.Outcome State Fault Refusal) : Option State :=
  match o with
  | .next s => some s
  | _ => none

/-- A card status in the response registers. -/
def answered (cs : Word) : RespRegs :=
  { Regs.reset.rr with
    rr1 := cs.extractLsb' 24 8, rr2 := cs.extractLsb' 16 8, rr3 := cs.extractLsb' 8 8, rr4 := cs.extractLsb' 0 8 }

/-- A short response as 95_test_vectors.md writes it: the head byte, the payload, the tail byte. -/
def short (head : Byte) (payload : Word) (tail : Byte) : Resp := .short (head ++ payload ++ tail)

/-- The R2 response of program P6: 0x3F and the 128 bits of 95_test_vectors.md table 2.3. -/
def cid : Resp := .long (0x3F#8 ++ 0x15010053494D454D4D1012345678A1FF#128)

/-! ### Register transactions (95_test_vectors.md table 2.1) -/

theorem test_cmdx_drops_bits : (after (exec (.w8Cmdx 0xD8) ready)).map (·.regs.cmdx) = some 0x18 := by decide

theorem test_arg4_triggers :
    (after (exec (.w8Arg4 0x00) (withRegs { Regs.reset with cmdx := 0x0D, arg2 := 0x01 }))).map
      (fun t => (t.hid.curIndex, t.hid.curArg, t.hid.cmdPhase, t.regs.isr)) = some (13, 0x00010000, .sending, 0) := by decide

theorem test_arg4_after_reset :
    (after (exec (.w8Arg4 0x07) State.reset)).map (fun t => (t.hid.curIndex, t.hid.curArg, t.hid.cmdPhase))
      = some (0, 7, .sending) := by decide

theorem test_arg4_refused :
    exec (.w8Arg4 0) (withHid { Hidden.reset with cmdPhase := .awaitingResponse }) = .refused .commandInFlight
    ∧ exec (.w8Arg4 0) (withRegs { Regs.reset with cmdx := 0x05 }) = .refused .unknownIndex := ⟨rfl, rfl⟩

theorem test_wdr_pushes : (after (exec (.w32Wdr 0x03020100) ready)).map (·.hid.wfifo) = some [0x03020100] := by decide

theorem test_rdr_pops :
    (after (exec .r32Rdr (withHid { Hidden.reset with rfifo := [0xAABBCCDD, 0x11223344] }))).map
      (fun t => (t.result, t.hid.rfifo)) = some (some (.read32 0xAABBCCDD), [0x11223344]) := by decide

theorem test_rdr_empty_sets_uof :
    (after (exec .r32Rdr ready)).map (fun t => (t.regs.sbisr, t.regs.mbisr, t.regs.isr)) = some (0x10, 0x10, 0) := by decide

theorem test_masks_store :
    (after (exec (.w8Imr 0xFF) ready)).map (·.regs.imr) = some 0x0F
    ∧ (after (exec (.w8Sbimr 0xFF) ready)).map (·.regs.sbimr) = some 0x1F := by decide

theorem test_unmasking_raises_irq :
    (after (exec (.w8Imr 0x02) (withRegs { Regs.reset with isr := 0x03 }))).map irq = some true := by decide

theorem test_isr_read_only :
    (after (exec (.w8Isr 0xFF) (withRegs { Regs.reset with isr := 0x03 }))).map (·.regs.isr) = some 0x03 := by decide

theorem test_icr_clears :
    (after (exec (.w8Icr 0x02) (withRegs { Regs.reset with isr := 0x03 }))).map (·.regs.isr) = some 0x01
    ∧ (after (exec (.w8Icr 0x00) (withRegs { Regs.reset with isr := 0x0F }))).map (·.regs.isr) = some 0x0F := by decide

theorem test_sbcsr_view :
    (after (exec .r8Sbcsr (withRegs { Regs.reset with sbisr := 0x03 }))).map (·.result) = some (some (.read8 0x03))
    ∧ (after (exec .r8Sbcsr (withRegs { Regs.reset with sbisr := 0x18 }))).map (·.result) = some (some (.read8 0x00)) := by
  decide

/-- `CLKOE` = 1, `wfifo` = [1, 2], `rfifo` = [3]. -/
def filled : State :=
  { ready with
    regs := { Regs.reset with clkoe := true }
    hid := { Hidden.reset with wfifo := [1, 2], rfifo := [3] } }

theorem test_ctrl_flushes :
    (after (exec (.w8Ctrl 0x0E) filled)).map (fun t => (t.hid.wfifo, t.hid.rfifo, t.regs.clkoe)) = some ([], [], true)
    ∧ (after (exec (.w8Ctrl 0x06) filled)).map (fun t => (t.hid.wfifo, t.hid.rfifo, t.regs.clkoe)) = some ([], [3], true) := by
  decide

theorem test_ctrl_stops_clock :
    (after (exec (.w8Ctrl 0x04) filled)).map (fun t => (t.hid.wfifo, t.regs.clkoe)) = some ([], false) := by decide

theorem test_ctrl_soft_reset :
    after (exec (.w8Ctrl 0x01) { filled with regs := { filled.regs with imr := 0x0E, clkr := 4, isr := 3 } })
      = some ready := by decide

theorem test_blr_constant :
    (after (exec .r16Blr ready)).map (·.result) = some (some (.read16 0x0200))
    ∧ after (exec (.w16Blr 0x0400) ready) = some ready := by decide

theorem test_datato_stores : (after (exec (.w32Datato 0x00FFFFFF) ready)).map (·.regs.datato) = some 0x00FFFFFF := by decide

/-! ### The interrupt line (95_test_vectors.md, after table 2.1) -/

theorem test_irq :
    irq (withRegs { Regs.reset with isr := 0x01, imr := 0x0E }) = false
    ∧ irq (withRegs { Regs.reset with isr := 0x03, imr := 0x0E }) = true
    ∧ irq (withRegs { Regs.reset with sbisr := 0x01, mbimr := 0x1F }) = false
    ∧ irq (withRegs { Regs.reset with mbisr := 0x08, mbimr := 0x1F }) = true := by decide

/-! ### Controller events (95_test_vectors.md, the events of part 2.1) -/

def sending13 : State := withHid { Hidden.reset with cmdPhase := .sending, curIndex := 13 }

def awaiting (index : BitVec 6) : State :=
  { ready with
    regs := { Regs.reset with isr := 0x01 }
    hid := { Hidden.reset with cmdPhase := .awaitingResponse, curIndex := index } }

theorem test_cmd_sent :
    (controllerStep .cmdSent sending13).map (fun t => (t.regs.isr, t.hid.cmdPhase)) = some (0x01, .awaitingResponse) := by decide

theorem test_cmd_sent_class_none :
    (controllerStep .cmdSent (withHid { Hidden.reset with cmdPhase := .sending })).map (fun t => (t.regs.isr, t.hid.cmdPhase))
      = some (0x01, .none) := by decide

theorem test_resp_ok :
    (controllerStep (.respOk (short 0x0D 0x00000900 0xFF) 0) (awaiting 13)).map (·.regs.rr)
      = some { Regs.reset.rr with rr0 := 0x0D, rr1 := 0x00, rr2 := 0x00, rr3 := 0x09, rr4 := 0x00, rr5 := 0xFF }
    ∧ (controllerStep (.respOk (short 0x0D 0x00000900 0xFF) 0) (awaiting 13)).map (fun t => (t.regs.isr, t.hid.cmdPhase))
      = some (0x03, .none) := by decide

theorem test_resp_fail :
    (controllerStep (.respFail true) (awaiting 13)).map (·.regs.isr) = some 0x0D
    ∧ (controllerStep (.respFail false) (awaiting 13)).map (·.regs.isr) = some 0x05 := by decide

/-- What is no response of the class (30_encoding.md rule R88): another index, no end bit, a transmission bit, an R3 whose last
byte is not 0xFF; and one with any CRC7. -/
theorem test_resp_layout :
    controllerStep (.respOk (short 0x18 0x00000900 0xFF) 0) (awaiting 13) = none
    ∧ controllerStep (.respOk (short 0x0D 0x00000900 0xFE) 0) (awaiting 13) = none
    ∧ controllerStep (.respOk (short 0x4D 0x00000900 0xFF) 0) (awaiting 13) = none
    ∧ controllerStep (.respOk (short 0x3F 0xC0FF8080 0x01) 0) (awaiting 1) = none
    ∧ (controllerStep (.respOk (short 0x0D 0x00000900 0x01) 0) (awaiting 13)).isSome = true
    ∧ (controllerStep (.respOk cid 0) (awaiting 2)).isSome = true := by decide

theorem test_resp_ok_opens_data_phase :
    (controllerStep (.respOk (short 0x18 0x00000900 0xFF) 0) (awaiting 24)).map
      (fun t => (t.hid.dataPhase, t.hid.dataTier, t.hid.wordsLeft)) = some (.write, .sb, 128)
    ∧ (controllerStep (.respOk (short 0x12 0x00000900 0xFF) 2) (awaiting 18)).map
      (fun t => (t.hid.dataPhase, t.hid.dataTier, t.hid.wordsLeft)) = some (.read, .mb, 256) := by decide

theorem test_word_out :
    (controllerStep .wordOut (withHid { Hidden.reset with dataPhase := .write, wordsLeft := 1, wfifo := [7] })).map
      (fun t => (t.hid.wfifo, t.hid.wordsLeft, t.deviceWords)) = some ([], 0, [7]) := by decide

theorem test_data_done :
    (controllerStep (.dataDone false false) (withHid { Hidden.reset with dataPhase := .write })).map
      (fun t => (t.regs.sbisr, t.hid.dataPhase)) = some (0x01, .none)
    ∧ (controllerStep (.dataDone true false)
        (withHid { Hidden.reset with dataPhase := .read, dataTier := .mb, wordsLeft := 40 })).map
      (fun t => (t.regs.mbisr, t.hid.wordsLeft)) = some (0x03, 0) := by decide

theorem test_fifo_timeout :
    (controllerStep .fifoTimeout (withHid { Hidden.reset with dataPhase := .write, dataTier := .mb, wordsLeft := 128 })).map
      (fun t => (t.regs.mbisr, t.hid.dataPhase, t.hid.wordsLeft)) = some (0x08, .none, 128) := by decide

/-! ### The response parser (95_test_vectors.md table 2.3) -/

theorem test_parse_r1 :
    parseR1 Config.reference 0x00000900 = .success ∧ parseR1 Config.reference 0x00000800 = .busy
    ∧ parseR1 Config.reference 0x80000800 = .fail ∧ parseR1 Config.reference 0x00400900 = .fail
    ∧ parseR1 Config.reference 0x00062960 = .success ∧ parseR1 Config.reference 0xFFFFFFFF = .fail
    ∧ parseR1 Config.reference 0x00000000 = .busy := by decide

theorem test_cur_state :
    curState Config.reference 0x00000900 = 4 ∧ curState Config.reference 0x00000E00 = 7
    ∧ curState Config.reference 0x00000B00 = 5 ∧ curState Config.reference 0x00062960 = 4 := by decide

theorem test_ocr :
    ocrReady Config.reference 0xC0FF8080 = true ∧ ocrMode Config.reference 0xC0FF8080 = 2
    ∧ ocrReady Config.reference 0x00FF8080 = false ∧ ocrMode Config.reference 0x80FF8080 = 0 := by decide

/-- `read_r2` reads what an R2 response left in `RR1` to `RR16` (41_command_interface.md rule R170). -/
theorem test_read_r2 :
    (after (run 17 { ready with
      agenda := [.readR2]
      regs := { Regs.reset with
        rr := ⟨0, 0x15, 0x01, 0x00, 0x53, 0x49, 0x4D, 0x45, 0x4D, 0x4D, 0x10, 0x12, 0x34, 0x56, 0x78, 0xA1, 0xFF⟩ } })).map
        (fun t => (t.result, t.engine)) = some (some (.r2 0x15010053494D454D4D1012345678A1FF), none) := by decide

/-! ### Operations, one step each -/

/-- A second `init` is refused (60_exceptions.md rule R267). -/
theorem test_init_refused : exec (.init true 0x7C 4) ready = .refused .alreadyInitialised := rfl

/-- The single-block write is told to use a misaligned buffer (43_blocking_transfers.md rule R202). -/
theorem test_sbw_bad_buffer : exec (.sbw true 0x1001 5) ready = .refused .badBuffer := rfl

/-- The window is no caller memory (20_memory.md rule R60). -/
theorem test_sbr_window : exec (.sbr true 5 0x40000000) ready = .refused .badBuffer := rfl

/-- Programs P4 and P5 start the transfer with these: a zero block count, a zero timeout (44_nonblocking_transfers.md
rule R215). -/
theorem test_mbw_asserts :
    exec (.mbw true 8 0 0 50) ready = .next { ready with faulted := some .zeroBlockCount }
    ∧ exec (.mbr true 8 2 0 0) ready = .next { ready with faulted := some .zeroTimeout } := ⟨rfl, rfl⟩

/-- The sentinel drives the extended-CSD chain, another sector the single-read chain (S4). -/
theorem test_sbr_nb_chain :
    ((after (exec (.sbrNb true 0xFFFFFFFF 0 50) ready)).bind (·.engine)).map (·.todo.head?)
      = some (some (.setSt (.state .xrParseStatus)))
    ∧ ((after (exec (.sbrNb true 8 0 50) ready)).bind (·.engine)).map (·.todo.head?)
      = some (some (.setSt (.state .srParseStatus))) := by decide

/-- `status` compares strictly (44_nonblocking_transfers.md rule R221). -/
theorem test_status_boundary :
    statusTimedOut 150 { ready with st := { ready.st with errState := .processing, startTick := 100, timeoutTicks := 50 } }
      = false
    ∧ statusTimedOut 151 { ready with st := { ready.st with errState := .processing, startTick := 100, timeoutTicks := 50 } }
      = true := by decide

/-- The elapsed count wraps at `cfg.TICK_BITS` bits (70_reset_and_hazards.md rule R307). -/
theorem test_elapsed_wraps :
    elapsed Config.reference 0x10 0xFFFFFFF0 = 0x20 ∧ elapsed elsewhere 0x10 0xFFF0 = 0x20
    ∧ statusTimedOut 0x00010010 { ready with
        cfg := elsewhere, st := { ready.st with errState := .processing, startTick := 0xFFF0, timeoutTicks := 0x1F } } = true := by
  decide

theorem test_fifo_addresses :
    (after (exec (.wfifoAddr true) ready)).map (·.result) = some (some (.address 0x4000001C))
    ∧ (after (exec (.rfifoAddr true) ready)).map (·.result) = some (some (.address 0x40000020)) := by decide

theorem test_isr_before_init : exec (.isr true) State.reset = .refused .statusUnwritten := rfl

/-- A command row plans its five writes (41_command_interface.md rule R165; 95_test_vectors.md table 2.2). -/
theorem test_command_writes :
    ((after (exec (.switch 0x03B70100) ready)).bind (·.engine)).map (·.todo)
      = some [.write .cmdx 6, .write .arg1 3, .write .arg2 0xB7, .write .arg3 1, .write .arg4 0] := by decide

/-- The extended CSD bytes of program P6: bytes 212 to 215 are 00 00 E9 00, the sector count 0x00E90000. -/
theorem test_csd_sector_count :
    csdSectorCount Config.reference (List.replicate 53 0 ++ [0x00E90000]) = 0x00E90000 := by decide

/-! ### Words placed for the next step -/

theorem test_fetch_register : step (State.reset.withFetchWord 16 0x0028) = exec .r8Isr State.reset := rfl

theorem test_fetch_command : step (State.reset.withFetchWord 40 0x0C00000000) = exec (.stopTransmission 0) State.reset := rfl

theorem test_fetch_request : step (State.reset.withFetchWord 8 0x0A) = exec (.initFifo false) State.reset := rfl

/-- An internal operation is submitted by ENGINE; from HOST it is refused (30_encoding.md rule R98). -/
theorem test_fetch_internal :
    step (State.reset.withFetchWord 8 0x0E) = exec (.issueCommand false 0 0) State.reset
    ∧ step { State.reset with agenda := [.request .host [0x0E, 0, 0, 0, 0, 0, 0, 0, 0, 0, 0, 0, 0, 0, 0, 0, 0, 0]] }
      = .refused .badRequest := ⟨rfl, rfl⟩

/-! ### Witnesses: for every obligation with hypotheses, what meets them -/

theorem quiet_reset : Quiet State.reset := ⟨rfl, rfl, rfl, rfl⟩
theorem quiet_ready : Quiet ready := ⟨rfl, rfl, rfl, rfl⟩

/-- A FIFO of 128 words, the least the configuration admits. -/
def shallow : Cfg := { Config.reference with vrValue := 0x18 }

/-- A packet submitted with nothing in progress. -/
def requested (src : Requester) (bytes : List Byte) : State := { ready with agenda := [.request src bytes] }

/-- `send_command` of SEND_STATUS with policy NONE. -/
def internalPacket : List Byte := [0x0D, 1, 0, 0, 0, 0, 13, 0, 0, 0, 2, 0, 0, 0, 0, 0, 0, 0]

theorem witness_DecodeOfEncodeIsTheInstruction :
    (Instr.switch 0x03FFFF00).wellFormed = true ∧ (Instr.sendCommand false 0xFFFFFFFF 25#6 .none).wellFormed = true
    ∧ Config.reference.wellFormed = true ∧ elsewhere.wellFormed = true ∧ bigEndian.wellFormed = true := by decide

theorem witness_EncodeOfDecodeIsThePacket :
    decode bigEndian [0x80, 0x30, 0, 0, 0, 0xFF] = .instr (.w8Ctrl 0xFF)
    ∧ decode Config.reference [0xCD, 0, 1, 0, 0] = .instr (.sendStatus 0x00010000) := by decide

theorem witness_EncodingsNotAdmittedAreRejected :
    (0x6000#16).extractLsb' 13 2 = 3#2 ∧ (0x0080#16).extractLsb' 7 6 ≠ 0#6 ∧ 0x51 < ((0x0052#16).extractLsb' 0 7).toNat
    ∧ respClass ((0x04#8).extractLsb' 0 6) = none ∧ 0x0E < (0x0F#8).toNat ∧ (0x02#8).extractLsb' 1 7 ≠ 0#7
    ∧ 3 ≤ (3#32).toNat
    ∧ ((requested .host internalPacket).faulted = none ∧ (requested .host internalPacket).engine = none
      ∧ (requested .host internalPacket).disp = none
      ∧ (requested .host internalPacket).agenda = .request .host internalPacket :: []
      ∧ decode (requested .host internalPacket).cfg internalPacket = .instr (.sendCommand true 0 13 .none)
      ∧ internalOnly (.sendCommand true 0 13 .none) = true) := by decide

theorem witness_StepRunsTheDecodedInstruction :
    ((requested .host [0x28, 0, 0, 0, 0, 0]).faulted = none ∧ (requested .host [0x28, 0, 0, 0, 0, 0]).engine = none
      ∧ (requested .host [0x28, 0, 0, 0, 0, 0]).disp = none
      ∧ (requested .host [0x28, 0, 0, 0, 0, 0]).agenda = .request .host [0x28, 0, 0, 0, 0, 0] :: []
      ∧ decode (requested .host [0x28, 0, 0, 0, 0, 0]).cfg [0x28, 0, 0, 0, 0, 0] = .instr .r8Isr
      ∧ (internalOnly .r8Isr = true → Requester.host = .engine))
    ∧ ((requested .engine internalPacket).faulted = none
      ∧ (requested .engine internalPacket).agenda = .request .engine internalPacket :: []
      ∧ decode (requested .engine internalPacket).cfg internalPacket = .instr (.sendCommand true 0 13 .none)
      ∧ (internalOnly (.sendCommand true 0 13 .none) = true → Requester.engine = .engine))
    ∧ (ready.cfg.littleEndian = true ∧ ready.cfg.off = Config.offsetTable ∧ decodeTableWord 16 0x8030 = some (.w8Ctrl 0)) := by decide

/-- An operation and a delivery in progress with a request waiting. -/
def waiting : State :=
  { ready with
    engine := some ⟨[.pollSent], .ret none, Locals.start⟩
    disp := some Ctx.deliveryStart
    agenda := [.request .host [0x28, 0x00, 0, 0, 0, 0]] }

theorem witness_RequestWaitsForTheOperationInProgress :
    waiting.faulted = none ∧ waiting.engine ≠ none ∧ waiting.disp ≠ none ∧ ({ waiting with disp := none } : State).engine ≠ none
    ∧ (after (step waiting)).isSome = true ∧ (after (step { waiting with disp := none })).isSome = true
    ∧ (after (step { waiting with agenda := [.hostIsr true] })).isSome = true
    ∧ (after (step { waiting with disp := none, agenda := [.hostIsr true] })).isSome = true := by decide

/-- HOST calls `isr` inside an operation with `irq` 0 (20_memory.md rule R71 item 3, 60_exceptions.md rule R271): the dispatcher
is entered and ENGINE stays where it is. -/
theorem test_host_calls_isr_inside_an_operation :
    irq { waiting with disp := none } = false
    ∧ (after (step { waiting with disp := none, agenda := [.hostIsr true] })).map (fun t => (t.disp, t.engine, t.agenda))
      = some (some Ctx.deliveryStart, waiting.engine, []) := by decide

theorem witness_AssertionFaultIsASink :
    ({ ready with faulted := some .zeroTimeout } : State).faulted = some .zeroTimeout := rfl

theorem inv_waiting : Inv waiting := by
  constructor <;> decide

theorem witness_EveryStepKeepsTheInvariant : Inv waiting ∧ (after (step waiting)).isSome = true :=
  ⟨inv_waiting, by decide⟩

theorem status_inv_waiting : StatusInv waiting where
  agrees := by
    unfold Status.InFlightAgrees
    decide
  temp_err := by decide
  temp_planned := by decide
  engine_order := rfl
  engine_point c hc := by
    cases hc
    rfl
  half_started h := absurd h.1 (by decide)
  before_test c hc _ u := by
    cases hc
    simp [Ctx.deliveryStart]
  at_checkpoint c x k hc hp := by
    cases hc
    cases hp

/-- A start operation that has assigned `st.state` and is about to assign `st.err_state`; no interrupt is delivered. -/
def starting : State :=
  { ready with
    st := { ready.st with state := .swParseStatus }
    engine := some ⟨[.setSt (.errState .processing), .write .icr 0xFF], .ret none, Locals.start⟩ }

theorem status_inv_starting : StatusInv starting where
  agrees := by
    unfold Status.InFlightAgrees
    decide
  temp_err := by decide
  temp_planned := by decide
  engine_order := rfl
  engine_point c hc := by
    cases hc
    rfl
  half_started _ := rfl
  before_test c hc := by cases hc
  at_checkpoint c x k hc := by cases hc

theorem inv_starting : Inv starting := by
  constructor <;> decide

theorem status_inv_ready : StatusInv ready where
  agrees := by
    unfold Status.InFlightAgrees
    decide
  temp_err := by decide
  temp_planned := by decide
  engine_order := rfl
  engine_point c hc := by cases hc
  half_started _ := rfl
  before_test c hc := by cases hc
  at_checkpoint c x k hc := by cases hc

/-- The clauses: a step in the middle of an operation and a delivery; a step of a start operation that is half done, where no
interrupt is delivered; a state with nothing planned. -/
theorem witness_InFlightAgreesWithTheState :
    (Inv waiting ∧ StatusInv waiting ∧ (∃ t, step waiting = .next t) ∧ ¬ halfStarted waiting)
    ∧ (Inv starting ∧ StatusInv starting ∧ (∃ t, step starting = .next t) ∧ halfStarted starting
      ∧ ¬ ((irq starting = true ∧ ∃ iv rest, starting.agenda = .deliver iv :: rest)
        ∨ ∃ iv rest, starting.agenda = .hostIsr iv :: rest))
    ∧ (StatusInv ready ∧ (∀ u, Micro.setSt u ∉ plannedSteps ready.engine) ∧ ∀ u, Micro.setSt u ∉ plannedSteps ready.disp) := by
  refine ⟨⟨inv_waiting, status_inv_waiting, ⟨_, rfl⟩, ?_⟩,
    ⟨inv_starting, status_inv_starting, ⟨_, rfl⟩, ⟨by decide, by decide⟩, ?_⟩, status_inv_ready, ?_, ?_⟩
  · rintro ⟨h, -⟩
    revert h
    decide
  · rintro (⟨-, iv, rest, h⟩ | ⟨iv, rest, h⟩) <;> cases h
  · intro u
    simp [ready, plannedSteps, State.reset]
  · intro u
    simp [ready, plannedSteps, State.reset]

theorem witness_ConfigurationNeverChanges : ∃ t, step waiting = .next t := ⟨_, rfl⟩

/-- ENGINE about to move the last word of a block read. -/
def draining : State :=
  { ready with
    hid := { Hidden.reset with rfifo := [0x11223344] }
    engine := some ⟨[.drain (.caller 0x1000) 127], .readDone (.caller 0x1000), Locals.start⟩ }

theorem witness_OnlyABlockReadWritesCallerMemory :
    Inv draining ∧ (∃ t, step draining = .next t)
    ∧ (∀ c buf i rest, draining.engine = some c → c.todo = .drain (.caller buf) i :: rest →
        0x11FB < buf.toNat + 4 * i ∨ buf.toNat + 4 * i + 4 ≤ 0x11FB)
    ∧ ∀ c buf i rest, draining.engine = some c → c.todo = .drain (.caller buf) i :: rest →
        0x1200 < buf.toNat + 4 * i ∨ buf.toNat + 4 * i + 4 ≤ 0x1200 := by
  refine ⟨?_, ⟨_, rfl⟩, ?_, ?_⟩
  · constructor <;> decide
  · intro c buf i rest hc ht
    cases hc
    cases ht
    decide
  · intro c buf i rest hc ht
    cases hc
    cases ht
    decide

theorem witness_DeliveryTouchesOnlyItsOwnRegisters :
    waiting.disp = some Ctx.deliveryStart ∧ Ctx.deliveryStart.isDelivery = true ∧ ∃ t, dispatcherStep waiting = .next t :=
  ⟨rfl, rfl, _, rfl⟩

theorem witness_BlockingTransferKeepsTheStatusRecord :
    (∃ t, exec (.sbw true 0x1000 5) ready = .next t) ∧ (∃ t, exec (.sbr true 5 0x1000) ready = .next t)
    ∧ (Ctx.mk [.pollDone] .writeDone Locals.start).isBlocking = true
    ∧ ∃ t, engineStep { ready with engine := some ⟨[.pollDone], .writeDone, Locals.start⟩ } = .next t :=
  ⟨⟨_, rfl⟩, ⟨_, rfl⟩, rfl, _, rfl⟩

theorem witness_LatchesAreSetByControllerOrAFifoPort :
    (∃ t, step waiting = .next t) ∧ ∀ e rest, waiting.agenda ≠ .event e :: rest :=
  ⟨⟨_, rfl⟩, fun e rest h => by cases h⟩

theorem witness_EventsClearNoLatchAndWriteNoMask :
    (({ sending13 with agenda := [.event .cmdSent] } : State).faulted = none
      ∧ ({ sending13 with agenda := [.event .cmdSent] } : State).agenda = .event .cmdSent :: [])
    ∧ (controllerStep .cmdSent sending13).isSome = true ∧ controllerStep .cmdSent ready = none := by decide

theorem witness_VersionRegistersAreConstant : (∃ t, step waiting = .next t) ∧ ∃ t, exec (.w8Ctrl 0x01) filled = .next t :=
  ⟨⟨_, rfl⟩, _, rfl⟩

/-- The three ways a step may go: no change, a response, a software reset. -/
theorem witness_ResponseRegistersAreReadOnly :
    (∃ t, step waiting = .next t)
    ∧ (∃ t, step { awaiting 13 with agenda := [.event (.respOk (short 0x0D 0x00000900 0xFF) 0)] } = .next t)
    ∧ ((∃ t, step (requested .host [0x30, 0x80, 0x01, 0, 0, 0]) = .next t)
      ∧ decode (requested .host [0x30, 0x80, 0x01, 0, 0, 0]).cfg [0x30, 0x80, 0x01, 0, 0, 0] = .instr (.w8Ctrl 0x01)) :=
  ⟨⟨_, rfl⟩, ⟨_, rfl⟩, ⟨_, rfl⟩, by decide⟩

theorem witness_ArgumentFourTriggersTheCommand :
    (awaiting 13).hid.cmdPhase ≠ .none ∧ sending13.hid.cmdPhase ≠ .none
    ∧ respClass ((withRegs { Regs.reset with cmdx := 26 }).regs.cmdx.extractLsb' 0 6) = none
    ∧ (withRegs { Regs.reset with cmdx := 26 }).hid.cmdPhase = .none
    ∧ respClass ((withRegs { Regs.reset with cmdx := 25 }).regs.cmdx.extractLsb' 0 6) ≠ none := by decide

theorem witness_FifoPortsPushAndPop :
    ({ ready with cfg := shallow, hid := { Hidden.reset with wfifo := List.replicate 127 0 } } : State).hid.wfifo.length
      < fifoDepth shallow
    ∧ fifoDepth shallow
      ≤ ({ ready with cfg := shallow, hid := { Hidden.reset with wfifo := List.replicate 128 0 } } : State).hid.wfifo.length
    ∧ (withHid { Hidden.reset with rfifo := [5] }).hid.rfifo = 5 :: [] ∧ ready.hid.rfifo = []
    ∧ (0x18#8).extractLsb' 0 2 = 0#2 ∧ (0x19#8).extractLsb' 0 2 = 1#2 ∧ (0x1A#8).extractLsb' 0 2 = 2#2
    ∧ (0x1B#8).extractLsb' 0 2 = 3#2 := by
  simp only [List.length_replicate]
  decide

theorem witness_MaskRegistersStoreImplementedBits :
    (0x08#8) &&& ((0x08#8) &&& 0x0F#8) ≠ 0#8 ∧ (0x10#8) &&& ((0x10#8) &&& 0x1F#8) ≠ 0#8
    ∧ (∃ t, exec (.w8Imr 0x08) (withRegs { Regs.reset with isr := 0x08 }) = .next t)
    ∧ (∃ t, exec (.w8Sbimr 0x10) (withRegs { Regs.reset with sbisr := 0x10 }) = .next t)
    ∧ (∃ t, exec (.w8Mbimr 0x10) (withRegs { Regs.reset with mbisr := 0x10 }) = .next t)
    ∧ ready.regs.imr = 0#8 ∧ ready.regs.sbimr = 0#8 ∧ ready.regs.mbimr = 0#8 :=
  ⟨by decide, by decide, ⟨_, rfl⟩, ⟨_, rfl⟩, ⟨_, rfl⟩, rfl, rfl, rfl⟩

theorem witness_ControlRegisterResetsAndEnables : (0x01#8).getLsbD 0 = true ∧ (0x0E#8).getLsbD 0 = false := by decide

/-- A write of 0xFF to a reserved offset, and the offsets where the clauses meet: the first and the last reserved one, the bytes
on either side of `WDR` and `RDR`, of `DATATO` and of `BLR`, and the forms of the other sizes. -/
theorem witness_ReservedOffsetsReadZero :
    ((requested .host (bytesOfHalf true (BitVec.ofBool true ++ Size.byte.code ++ 0#6 ++ 0x1A#7) ++ bytesOfWord true 0xFF)).faulted
        = none
      ∧ (requested .host (bytesOfHalf true (BitVec.ofBool true ++ Size.byte.code ++ 0#6 ++ 0x1A#7)
        ++ bytesOfWord true 0xFF)).engine = none
      ∧ ready.disp = none ∧ ready.cfg.littleEndian = true ∧ ready.cfg.off = Config.offsetTable
      ∧ (0x000000FF#32).extractLsb' 8 24 = 0#24)
    ∧ (∃ t, step (requested .host [0x1A, 0x80, 0xFF, 0, 0, 0]) = .next t)
    ∧ (∃ t, step (requested .host [0x4F, 0x00, 0, 0, 0, 0]) = .next t)
    ∧ ((0x1C ≤ (0x1C#7).toNat ∧ (0x23#7).toNat ≤ 0x23) ∧ (0x48 ≤ (0x48#7).toNat ∧ (0x4B#7).toNat ≤ 0x4B)
      ∧ 0x50 ≤ (0x50#7).toNat ∧ 0x50 ≤ (0x7F#7).toNat)
    ∧ (0x51#7).toNat ≠ 0x50 ∧ (0x28#7).toNat ≠ 0x1C ∧ (0x28#7).toNat ≠ 0x20 ∧ (0x28#7).toNat ≠ 0x48 :=
  ⟨by decide, ⟨_, rfl⟩, ⟨_, rfl⟩, by decide⟩

theorem witness_InterruptLineIsUnmaskedLatches :
    (irq { withRegs { Regs.reset with mbisr := 0x10, mbimr := 0x10 } with agenda := [.deliver true] } = true
      ∧ ({ withRegs { Regs.reset with mbisr := 0x10, mbimr := 0x10 } with agenda := [.deliver true] } : State).faulted = none
      ∧ ({ withRegs { Regs.reset with mbisr := 0x10, mbimr := 0x10 } with agenda := [.deliver true] } : State).disp = none)
    ∧ (irq { withRegs { Regs.reset with isr := 0x0F } with agenda := [.deliver true] } = false
      ∧ ({ withRegs { Regs.reset with isr := 0x0F } with agenda := [.deliver true] } : State).faulted = none) := by decide

theorem witness_CommandEventsFollowTheContract :
    sending13.hid.cmdPhase = .sending ∧ (awaiting 18).hid.cmdPhase = .awaitingResponse
    ∧ (awaiting 18).hid.cmdPhase ≠ .sending ∧ sending13.hid.cmdPhase ≠ .awaitingResponse
    ∧ respClass (awaiting 18).hid.curIndex = some .r1 ∧ (1 : Nat) ≤ 1
    ∧ respClass (awaiting 12).hid.curIndex = some .r1b ∧ respClass (awaiting 1).hid.curIndex = some .r3
    ∧ respClass (awaiting 2).hid.curIndex = some .r2 ∧ respClass (awaiting 13).hid.curIndex ≠ some .r2
    ∧ (awaiting 18).hid.curIndex = 18#6 ∧ (awaiting 25).hid.curIndex = 25#6
    ∧ responseFits 18 (short 0x12 0x00000900 0xFF) = true ∧ responseFits 12 (short 0x0C 0x00000900 0xFF) = true
    ∧ responseFits 1 (short 0x3F 0x00FF8080 0xFF) = true ∧ responseFits 2 cid = true
    ∧ responseFits 13 (short 0x18 0x00000900 0xFF) = false := by decide

/-- A data phase with `n` words to go and these FIFOs, 128 deep. -/
def phase (p : DataPhase) (tier : Tier) (n : Nat) (w r : List Word) : State :=
  { ready with
    cfg := shallow
    hid := { Hidden.reset with dataPhase := p, dataTier := tier, wordsLeft := n, wfifo := w, rfifo := r } }

theorem witness_DataEventsFollowTheContract :
    ((phase .write .sb 1 [9] []).hid.dataPhase = .write ∧ 0 < (phase .write .sb 1 [9] []).hid.wordsLeft
      ∧ (phase .write .sb 1 [9] []).hid.wfifo = 9 :: [])
    ∧ (phase .write .sb 0 [9] []).hid.wordsLeft = 0
    ∧ ((phase .read .sb 1 [] (List.replicate 127 0)).hid.dataPhase = .read
      ∧ 0 < (phase .read .sb 1 [] (List.replicate 127 0)).hid.wordsLeft
      ∧ (phase .read .sb 1 [] (List.replicate 127 0)).hid.rfifo.length < fifoDepth shallow)
    ∧ fifoDepth shallow ≤ (phase .read .sb 1 [] (List.replicate 128 0)).hid.rfifo.length
    ∧ ((phase .read .mb 0 [] []).hid.dataPhase ≠ .none ∧ (phase .read .mb 0 [] []).hid.wordsLeft = 0
      ∧ (phase .read .mb 0 [] []).hid.dataTier = .mb)
    ∧ ((phase .write .sb 1 [] []).hid.dataPhase ≠ .none ∧ (phase .write .sb 1 [] []).hid.wordsLeft ≠ 0
      ∧ (phase .write .sb 1 [] []).hid.dataTier = .sb)
    ∧ ready.hid.dataPhase = .none
    ∧ ((phase .write .mb 1 [] []).hid.dataPhase = .write ∧ 0 < (phase .write .mb 1 [] []).hid.wordsLeft
      ∧ (phase .write .mb 1 [] []).hid.wfifo = [] ∧ (phase .write .mb 1 [] []).hid.dataTier = .mb)
    ∧ ¬ ((phase .write .mb 1 [9] []).hid.dataPhase = .write ∧ 0 < (phase .write .mb 1 [9] []).hid.wordsLeft
        ∧ (phase .write .mb 1 [9] []).hid.wfifo = [])
    ∧ ¬ ((phase .write .mb 1 [9] []).hid.dataPhase = .read ∧ 0 < (phase .write .mb 1 [9] []).hid.wordsLeft
        ∧ fifoDepth (phase .write .mb 1 [9] []).cfg ≤ (phase .write .mb 1 [9] []).hid.rfifo.length) := by
  simp only [phase, List.length_replicate]
  decide

theorem witness_CommandRowsWriteFiveRegisters :
    Quiet ready ∧ ready.hid.cmdPhase = .none ∧ Quiet (awaiting 13) ∧ (awaiting 13).hid.cmdPhase ≠ .none :=
  ⟨quiet_ready, rfl, ⟨rfl, rfl, rfl, rfl⟩, by decide⟩

theorem witness_InternalOperationsSendTheCommand :
    respClass 26#6 = none ∧ respClass 25#6 ≠ none ∧ Quiet ready ∧ ready.hid.cmdPhase = .none
    ∧ Policy.isrCheck ≠ .poll ∧ Policy.none ≠ .poll ∧ ready.regs.isr.getLsbD 0 = false
    ∧ Quiet (withRegs { Regs.reset with isr := 1 }) ∧ (withRegs { Regs.reset with isr := 1 }).regs.isr.getLsbD 0 = true :=
  ⟨by decide, by decide, quiet_ready, rfl, by decide, by decide, rfl, ⟨rfl, rfl, rfl, rfl⟩, rfl⟩

theorem witness_IssueCommandReturnsTheParsedStatus :
    Quiet ready ∧ ready.hid.cmdPhase = .none ∧ respClass 0#6 = some .none ∧ respClass 18#6 = some .r1
    ∧ respClass 6#6 = some .r1b ∧ respClass 2#6 = some .r2 ∧ respClass 1#6 = some .r3
    ∧ responseFits 18 (short 0x12 0x00000900 0xFF) = true
    ∧ responseFits 6 (short 0x06 0x00000900 0x01) = true ∧ responseFits 2 cid = true
    ∧ responseFits 1 (short 0x3F 0x00FF8080 0xFF) = true :=
  ⟨quiet_ready, rfl, by decide, by decide, by decide, by decide, by decide, by decide, by decide, by decide, by decide⟩

theorem witness_ParseTestsErrorBeforeReady :
    Config.reference.r1ErrorMask = 0xFDF98080#32 ∧ Config.reference.r1ReadyBit = 8 ∧ Config.reference.ocrReadyBit = 31
    ∧ Config.reference.ocrModeHi = 30 ∧ Config.reference.ocrModeLo = 29 ∧ Config.reference.r1StateHi = 12
    ∧ Config.reference.r1StateLo = 9 := ⟨rfl, rfl, rfl, rfl, rfl, rfl, rfl⟩

/-- `read_r2` about to begin, waiting for a delivery, waiting for an operation, and at its second byte. -/
theorem witness_ReadR2GivesThePayload :
    (({ ready with agenda := [.readR2] } : State).faulted = none
      ∧ ({ ready with agenda := [.readR2] } : State).agenda = .readR2 :: [] ∧ ready.disp = none ∧ ready.engine = none)
    ∧ (({ waiting with agenda := [.readR2] } : State).faulted = none ∧ waiting.disp ≠ none)
    ∧ (({ waiting with disp := none, agenda := [.readR2] } : State).disp = none ∧ waiting.engine ≠ none)
    ∧ ({ ready with engine := some ⟨[.r2Byte 2, .r2Byte 3], .r2Read, Locals.start⟩ } : State).engine
      = some ⟨.r2Byte 2 :: .r2Byte 3 :: [], .r2Read, Locals.start⟩ := by decide

/-- A configuration whose version register the block does not recognise. -/
def strange : State := { State.reset with cfg := { Config.reference with vrValue := 0x29 } }

/-- Both outcomes of the version test, and both grounds of the second: a revision that is not recognised, a width that is none. -/
theorem witness_InitProgramsTheControllerAndReadsTheVersion :
    ready.initialised = true ∧ State.reset.initialised = false ∧ Quiet State.reset
    ∧ (State.reset.cfg.vrValue.extractLsb' 4 4 ∈ State.reset.cfg.supportedRev
      ∧ State.reset.cfg.vrValue.extractLsb' 2 2 ≠ 3#2)
    ∧ Quiet strange ∧ ¬ (strange.cfg.vrValue.extractLsb' 4 4 ∈ strange.cfg.supportedRev)
    ∧ ¬ ((0x1C#8).extractLsb' 2 2 ≠ 3#2)
    ∧ (0x10#8).extractLsb' 2 2 = 0#2 ∧ (0x14#8).extractLsb' 2 2 = 1#2 ∧ (0x18#8).extractLsb' 2 2 = 2#2 :=
  ⟨rfl, rfl, quiet_reset, by decide, ⟨rfl, rfl, rfl, rfl⟩, by decide, by decide, by decide, by decide, by decide⟩

/-- ENGINE at the last step of a command of class `none`. -/
def sentAt (k : Cont) : State :=
  { withRegs { Regs.reset with isr := 0x01 } with engine := some ⟨[.pollSent], .result k .success, Locals.start⟩ }

/-- ENGINE at the poll for an answer, these latches set. -/
def answeredAt (index : BitVec 6) (k : Cont) (isr : Byte) : State :=
  { withRegs { Regs.reset with isr := isr } with engine := some ⟨[.pollResponse], .responded index k, Locals.start⟩ }

/-- ENGINE at the last byte of a card status. -/
def statusAt (k : Cont) (cs : Word) : State :=
  { withRegs { Regs.reset with isr := 0x03, rr := answered cs } with
    engine := some ⟨[.payloadByte 4], .parsed k, { Locals.start with payload := cs >>> 8 }⟩ }

theorem ends_sent (k : Cont) : (sentAt k).CommandEnds k .success :=
  ⟨rfl, rfl, rfl, Locals.start, .inl ⟨rfl, (by decide : (0x01#8).getLsbD 0 = true), rfl⟩⟩

theorem ends_failed (index : BitVec 6) (k : Cont) : (answeredAt index k 0x0D).CommandEnds k .fail :=
  ⟨rfl, rfl, rfl, Locals.start, .inr (.inl ⟨index, rfl, .inl ⟨(by decide : 0x0D#8 &&& 0x0C#8 ≠ 0#8), rfl⟩⟩)⟩

theorem ends_unparsed (index : BitVec 6) (k : Cont) (h : respClass index = some .r2 ∨ respClass index = some .r3) :
    (answeredAt index k 0x03).CommandEnds k .success :=
  ⟨rfl, rfl, rfl, Locals.start, .inr (.inl ⟨index, rfl, .inr ⟨(by decide : 0x03#8 &&& 0x0E#8 = 0x02#8), h, rfl⟩⟩)⟩

theorem ends_status (k : Cont) (cs : Word) (r : CmdResult)
    (h : parseR1 Config.reference ((cs >>> 8).extractLsb' 0 24 ++ cs.extractLsb' 0 8) = r) : (statusAt k cs).CommandEnds k r :=
  ⟨rfl, rfl, rfl, { Locals.start with payload := cs >>> 8 }, .inr (.inr ⟨rfl, h⟩)⟩

theorem ends_success (k : Cont) : (statusAt k 0x00000900).CommandEnds k .success := ends_status _ _ _ (by decide)

theorem ends_busy (k : Cont) : (statusAt k 0x00000800).CommandEnds k .busy := ends_status _ _ _ (by decide)

theorem ends_error (k : Cont) : (statusAt k 0x80000900).CommandEnds k .fail := ends_status _ _ _ (by decide)

/-- ENGINE at the last byte of the OCR, the three before it read, and at the last capture of the Extended CSD. -/
def ocrAt (first : Word) : State := { ready with engine := some ⟨[.payloadByte 4], .initOcr, { Locals.start with payload := first }⟩ }

def capturedAt (v : Byte) : State := { ready with engine := some ⟨[.setInst (.hsTiming v)], .initCaptured, Locals.start⟩ }

/-- Where a card of 4, 8 or 1 lines is selected. -/
def selectedAt (w : BitVec 4) : State := { statusAt .initSelect 0x00000900 with inst := { ready.inst with busWidth := w } }

theorem selected_ends (w : BitVec 4) : (selectedAt w).CommandEnds .initSelect .success := ends_success .initSelect

/-- An Extended CSD whose byte 185 is 1 and whose bytes 212 to 215 are a sector count (program P6). -/
def csd : List Word := List.replicate 46 0 ++ [0x00000100] ++ List.replicate 6 0 ++ [0x00E90000] ++ List.replicate 74 0

/-- Byte `k` of it, as a little-endian DEVICE sends it. -/
def csdBytes (k : Nat) : Byte := (csd.getD (k / 4) 0#32).extractLsb' (8 * (k % 4)) 8

theorem witness_InitFollowsItsStepsOrExitsWithTheirCode :
    ((sentAt .initGoIdle).CommandEnds .initGoIdle .success ∧ (answeredAt 0 .initGoIdle 0x0D).CommandEnds .initGoIdle .fail)
    ∧ ((answeredAt 1 .initOpCond 0x03).CommandEnds .initOpCond .success
      ∧ (answeredAt 1 .initOpCond 0x0D).CommandEnds .initOpCond .fail)
    ∧ ((ocrAt 0x00FF80).engine = some ⟨[.payloadByte 4], .initOcr, { Locals.start with payload := 0x00FF80 }⟩
      ∧ (0x00FF8000#32).getLsbD Config.reference.ocrReadyBit = false
      ∧ (0x80FF8000#32).getLsbD Config.reference.ocrReadyBit = true
      ∧ ocrMode Config.reference 0x80FF8000#32 ≠ Config.reference.ocrModeSector
      ∧ (0xC0FF8000#32).getLsbD Config.reference.ocrReadyBit = true
      ∧ ocrMode Config.reference 0xC0FF8000#32 = Config.reference.ocrModeSector)
    ∧ ((answeredAt 2 .initCid 0x03).CommandEnds .initCid .success ∧ (answeredAt 2 .initCid 0x0D).CommandEnds .initCid .fail)
    ∧ (∀ k ∈ [Cont.initRca, .initSelect, .initBusSwitch, .initSpeedSwitch, .ready .initBus, .ready .initSpeed],
        (statusAt k 0x00000900).CommandEnds k .success ∧ (statusAt k 0x00000800).CommandEnds k .busy
        ∧ (statusAt k 0x80000900).CommandEnds k .fail)
    ∧ (∀ w ∈ [1#4, 4#4, 8#4], (selectedAt w).CommandEnds .initSelect .success ∧ (selectedAt w).inst.busWidth = w)
    ∧ ((statusAt (.ready (.readAfter .scratch)) 0x00000900).CommandEnds (.ready (.readAfter .scratch)) .success
      ∧ ∃ c, (statusAt (.ready (.readAfter .scratch)) 0x00000900).engine = some c)
    ∧ (capturedAt 0).engine = some ⟨[.setInst (.hsTiming 0)], .initCaptured, Locals.start⟩
    ∧ (capturedAt 1).engine = some ⟨[.setInst (.hsTiming 1)], .initCaptured, Locals.start⟩ :=
  ⟨⟨ends_sent _, ends_failed _ _⟩, ⟨ends_unparsed _ _ (by decide), ends_failed _ _⟩, by decide,
    ⟨ends_unparsed _ _ (by decide), ends_failed _ _⟩, fun k _ => ⟨ends_success k, ends_busy k, ends_error k⟩,
    fun w _ => ⟨selected_ends w, rfl⟩, ⟨ends_success _, _, rfl⟩, rfl, rfl⟩

theorem witness_InitExitThenStatusReturnsTheCode :
    ({ State.reset with engine := some (Ctx.initExit State.reset.cfg .initSuccess Locals.start) } : State).engine
      = some (Ctx.initExit State.reset.cfg .initSuccess Locals.start)
    ∧ ({ State.reset with engine := some (Ctx.initExit State.reset.cfg .initSuccess Locals.start) } : State).faulted = none
    ∧ ({ State.reset with engine := some (Ctx.initExit State.reset.cfg .initSuccess Locals.start) } : State).disp = none
    ∧ ({ State.reset with engine := some (Ctx.initExit State.reset.cfg .initSuccess Locals.start) } : State).agenda = [] :=
  ⟨rfl, rfl, rfl, rfl⟩

/-- A transfer in flight. -/
def inFlight (state : FsmState) : State :=
  { ready with st := { ready.st with state := state, errState := .processing, startTick := 100, timeoutTicks := 50 } }

theorem witness_BlockingTransfersTestTheirPreconditions :
    State.reset.initialised = false ∧ (inFlight .swParseStatus).st.errState = .processing
    ∧ ready.initialised = true ∧ ready.st.errState ≠ .processing ∧ (0x1002#32).toNat % 4 ≠ 0
    ∧ bufferFits ready 0xFFFFFE04 = false ∧ bufferFits ready 0xFFFFFE00 = true
    ∧ bufferFits ready 0x3FFFFE04 = false ∧ bufferFits ready 0x3FFFFE00 = true
    ∧ bufferFits ready 0x40000050 = false ∧ bufferFits ready 0x40000054 = true := by decide

theorem witness_BlockingTransfersResetTheFifoAndAskForStatus :
    Quiet ready ∧ ready.initialised = true ∧ ready.st.errState ≠ .processing ∧ bufferFits ready 0xFFFFFE00 = true
    ∧ ready.hid.cmdPhase = .none := ⟨quiet_ready, rfl, by decide, by decide, rfl⟩

/-- A block write about to fill an empty FIFO of 128 words. -/
def filling : State :=
  { phase .none .sb 0 [] [] with engine := some ⟨(List.range 128).map (.fill 0x1000) ++ [.pollDone], .writeDone, Locals.start⟩ }

/-- A block read about to drain 128 words, one more behind them. -/
def emptying : State :=
  { phase .none .sb 0 [] (List.replicate 128 7 ++ [9]) with
    engine := some ⟨(List.range 128).map (.drain (.caller 0x1000)) ++ [.pollDone], .readDone (.caller 0x1000), Locals.start⟩ }

/-- A blocking transfer waiting for `DONE`, with these latches. -/
def atDone (p : Point) (sbisr : Byte) : State :=
  { withRegs { Regs.reset with sbisr := sbisr } with engine := some ⟨[.pollDone], p, Locals.start⟩ }

theorem witness_BlockWriteFillsTheFifo :
    (filling.faulted = none ∧ filling.disp = none ∧ filling.agenda = [])
    ∧ filling.engine
      = some ⟨(List.range filling.cfg.blockWords).map (.fill 0x1000) ++ .pollDone :: [], .writeDone, Locals.start⟩
    ∧ filling.hid.wfifo.length + filling.cfg.blockWords ≤ fifoDepth filling.cfg := ⟨⟨rfl, rfl, rfl⟩, rfl, by decide⟩

theorem witness_BlockReadDrainsTheFifo :
    (emptying.faulted = none ∧ emptying.disp = none ∧ emptying.agenda = [])
    ∧ emptying.engine
      = some ⟨(List.range emptying.cfg.blockWords).map (.drain (.caller 0x1000)) ++ .pollDone :: [],
          .readDone (.caller 0x1000), Locals.start⟩
    ∧ Memory.wf emptying.mem = true ∧ emptying.hid.rfifo = List.replicate 128 7 ++ [9]
    ∧ (List.replicate 128 (7 : Word)).length = emptying.cfg.blockWords :=
  ⟨⟨rfl, rfl, rfl⟩, rfl, rfl, rfl, List.length_replicate⟩

theorem witness_BlockingTransfersEndAsTheErrorTableSays :
    (∀ k ∈ [Cont.ready (.writeBefore 0x1000 5), .ready .writeAfter, .writeCmd 0x1000, .ready (.readBefore 5 (.caller 0x1000)),
          .ready (.readBefore 0xFFFFFFFF .scratch), .readCmd (.caller 0x1000), .readCmd .scratch,
          .ready (.readAfter (.caller 0x1000)), .ready (.readAfter .scratch)],
        (statusAt k 0x00000900).CommandEnds k .success ∧ (statusAt k 0x00000800).CommandEnds k .busy
        ∧ (statusAt k 0x80000900).CommandEnds k .fail)
    ∧ (0xFFFFFFFF#32) = Config.reference.extCsdSentinel ∧ (5#32) ≠ Config.reference.extCsdSentinel
    ∧ ∀ p ∈ [Point.writeDone, .readDone (.caller 0x1000), .readDone .scratch],
      ((atDone p 0x06).faulted = none ∧ (atDone p 0x06).disp = none ∧ (atDone p 0x06).agenda = [])
      ∧ (atDone p 0x06).engine = some ⟨[.pollDone], p, Locals.start⟩
      ∧ (atDone p 0x06).regs.sbisr.getLsbD 0 = false
      ∧ ((atDone p 0x07).regs.sbisr.getLsbD 0 = true ∧ (atDone p 0x07).regs.sbisr.getLsbD 1 = true)
      ∧ ((atDone p 0x05).regs.sbisr.getLsbD 0 = true ∧ (atDone p 0x05).regs.sbisr.getLsbD 1 = false
        ∧ (atDone p 0x05).regs.sbisr.getLsbD 2 = true)
      ∧ ((atDone p 0x19).regs.sbisr.getLsbD 0 = true ∧ (atDone p 0x19).regs.sbisr.getLsbD 1 = false
        ∧ (atDone p 0x19).regs.sbisr.getLsbD 2 = false) :=
  ⟨fun k _ => ⟨ends_success k, ends_busy k, ends_error k⟩, rfl, by decide, by decide⟩

theorem witness_StartOperationsValidateInOrder :
    (0xFFFF#16) ≠ 0#16 ∧ 1 = (1#32).toNat % 2 ^ ready.cfg.tickBits ∧ 0 = (0x10000#32).toNat % 2 ^ elsewhere.tickBits
    ∧ State.reset.initialised = false ∧ (inFlight .mrAwaitDone).initialised = true
    ∧ (inFlight .mrAwaitDone).st.errState = .processing := by decide

theorem witness_StartOperationsArmTheInterrupts :
    Quiet ready ∧ ready.initialised = true ∧ ready.st.errState ≠ .processing ∧ ready.hid.cmdPhase = .none
    ∧ 100 = (100#32).toNat % 2 ^ ready.cfg.tickBits ∧ 1 = (1#32).toNat % 2 ^ ready.cfg.tickBits ∧ (1#16) ≠ 0#16
    ∧ (0xFFFFFFFF#32) = ready.cfg.extCsdSentinel ∧ (0xFFFFFFFE#32) ≠ ready.cfg.extCsdSentinel :=
  ⟨quiet_ready, rfl, by decide, rfl, by decide, by decide, by decide, rfl, by decide⟩

/-- The clauses of `status`: before `init`, one tick past the budget, at the budget, and past it where the test does not
apply; and a count that has wrapped. -/
theorem witness_StatusTimesOutOrReturnsTheStickyCode :
    State.reset.initExited = false
    ∧ ((inFlight .srAwaitDone).initExited = true ∧ (inFlight .srAwaitDone).cfg.timeoutScope = .always
      ∧ 51 < 2 ^ ready.cfg.tickBits
      ∧ ((inFlight .srAwaitDone).st.startTick + 51) % 2 ^ ready.cfg.tickBits = (151#32).toNat % 2 ^ ready.cfg.tickBits
      ∧ (inFlight .srAwaitDone).st.timeoutTicks < 51 ∧ Quiet (inFlight .srAwaitDone))
    ∧ (((inFlight .srAwaitDone).st.startTick + 50) % 2 ^ ready.cfg.tickBits = (150#32).toNat % 2 ^ ready.cfg.tickBits
      ∧ 50 ≤ (inFlight .srAwaitDone).st.timeoutTicks)
    ∧ ((inFlight .srAwaitDone).st.startTick + (2 ^ 32 - 1)) % 2 ^ ready.cfg.tickBits = (99#32).toNat % 2 ^ ready.cfg.tickBits
    ∧ (({ ready with cfg := { ready.cfg with timeoutScope := .inFlightOnly } } : State).cfg.timeoutScope = .inFlightOnly
      ∧ ready.st.errState ≠ .processing) :=
  ⟨rfl, ⟨rfl, rfl, by decide, by decide, by decide, rfl, rfl, rfl, rfl⟩, by decide, by decide, rfl, by decide⟩

theorem witness_FifoResetAndPortAddresses : ready.cfg.off = Config.offsetTable := rfl

theorem witness_NullInstanceFaultsEveryOperation :
    Instr.isr false ∈ [Instr.init false 1 2, .sbw false 3 4, .sbr false 3 4, .sbwNb false 3 4 5, .sbrNb false 3 4 5,
      .mbw false 3 6 4 5, .mbr false 3 6 4 5, .status false 3, .isr false, .initFifo false, .wfifoAddr false,
      .rfifoAddr false] := by decide

theorem witness_ErrorClassificationOrder :
    (0x10#8).getLsbD 4 = true ∧ (0x08#8).getLsbD 4 = false ∧ (0x08#8).getLsbD 3 = true ∧ (0x07#8).getLsbD 3 = false
    ∧ (0x0D#8).getLsbD 0 = true ∧ (0x0D#8).getLsbD 2 = true ∧ (0x0D#8).getLsbD 3 = true
    ∧ ¬ ((0x0C#8).getLsbD 0 = true ∧ (0x0C#8).getLsbD 2 = true ∧ (0x0C#8).getLsbD 3 = true) := by decide

theorem witness_TerminalAndAbortDeliveriesEndInError :
    State.reset.initExited = false ∧ (inFlight .idle).initExited = true ∧ Quiet (inFlight .idle)
    ∧ (inFlight .idle).st.state = .idle ∧ Quiet (inFlight .error) ∧ (inFlight .error).st.state = .error
    ∧ Quiet (inFlight .stopTransmission) ∧ (inFlight .stopTransmission).st.state = .stopTransmission :=
  ⟨rfl, rfl, ⟨rfl, rfl, rfl, rfl⟩, rfl, ⟨rfl, rfl, rfl, rfl⟩, rfl, ⟨rfl, rfl, rfl, rfl⟩, rfl⟩

/-- A transfer in flight with these latches, this card status and no command open. -/
def delivered (state : FsmState) (isr sbisr mbisr : Byte) (cs : Word) : State :=
  { inFlight state with regs := { Regs.reset with rr := answered cs, isr := isr, sbisr := sbisr, mbisr := mbisr } }

theorem quiet_delivered (state : FsmState) (isr sbisr mbisr : Byte) (cs : Word) :
    Quiet (delivered state isr sbisr mbisr cs) := ⟨rfl, rfl, rfl, rfl⟩

theorem witness_ErrorDeliveryAbortsTheTransfer :
    ((delivered .swParseStatus 0x0D 0 0 0).st.state.chain? = some (.sw, .parseStatus)
      ∧ hasError 0x0D ((delivered .swParseStatus 0x0D 0 0 0).tierStatus .sw) = true
      ∧ (delivered .swParseStatus 0x0D 0 0 0).initExited = true ∧ (delivered .swParseStatus 0x0D 0 0 0).hid.cmdPhase = .none)
    ∧ ((delivered .mrAwaitDone 0 0 0x02 0).st.state.chain? = some (.mr, .awaitDone)
      ∧ hasError 0x00 ((delivered .mrAwaitDone 0 0 0x02 0).tierStatus .mr) = true)
    ∧ (({ delivered .swParseStatus 0x01 0x10 0 0 with hid := sending13.hid } : State).hid.cmdPhase ≠ .none
      ∧ hasError 0x01 (({ delivered .swParseStatus 0x01 0x10 0 0 with hid := sending13.hid } : State).tierStatus .sw) = true) := by
  decide

theorem witness_UnexpectedDeliveryChangesNothing :
    (hasError 0x01 ((delivered .mwParseBlockCount 0x01 0 0 0).tierStatus .mw) = false
      ∧ FsmState.mwParseBlockCount.chain? = some (.mw, .parseBlockCount)
      ∧ (delivered .mwParseBlockCount 0x01 0 0 0).regs.isr.getLsbD 1 = false)
    ∧ (hasError 0x02 ((delivered .srAwaitDone 0x02 0 0x1F 0).tierStatus .sr) = false
      ∧ FsmState.srAwaitDone.chain? = some (.sr, .awaitDone)
      ∧ ((delivered .srAwaitDone 0x02 0 0x1F 0).tierStatus .sr).getLsbD 0 = false) := by decide

/-- The clauses of a checkpoint: without `SENT`; with an error in the card status; busy; ready in another state; ready in
`tran` in a multi and in a single chain; the block count; the data command. -/
theorem witness_CheckpointDeliveriesFollowTheTable :
    ((delivered .mwParseStatus 0x02 0 0 0).regs.isr.getLsbD 0 = false
      ∧ (delivered .mwParseStatus 0x02 0 0 0).regs.isr.getLsbD 1 = true
      ∧ hasError 0x02 ((delivered .mwParseStatus 0x02 0 0 0).tierStatus .mw) = false
      ∧ (delivered .mwParseStatus 0x02 0 0 0).hid.cmdPhase = .none)
    ∧ (delivered .mwParseStatus 0x03 0 0 0).regs.isr.getLsbD 0 = true
    ∧ parseR1 ready.cfg (delivered .mwParseStatus 0x03 0 0 0x80000900).cardStatus = .fail
    ∧ parseR1 ready.cfg (delivered .mwParseStatus 0x03 0 0 0x00000800).cardStatus = .busy
    ∧ (parseR1 ready.cfg (delivered .mwParseStatus 0x03 0 0 0x00000B00).cardStatus ≠ .fail
      ∧ curState ready.cfg (delivered .mwParseStatus 0x03 0 0 0x00000B00).cardStatus ≠ ready.cfg.stateTran)
    ∧ (parseR1 ready.cfg (delivered .mwParseStatus 0x03 0 0 0x00000900).cardStatus = .success
      ∧ curState ready.cfg (delivered .mwParseStatus 0x03 0 0 0x00000900).cardStatus = ready.cfg.stateTran)
    ∧ Chain.mw.multi = true ∧ Chain.xr.multi = false
    ∧ FsmState.mwParseStatus.chain? = some (.mw, .parseStatus) ∧ FsmState.xrParseStatus.chain? = some (.xr, .parseStatus)
    ∧ FsmState.mrParseBlockCount.chain? = some (.mr, .parseBlockCount)
    ∧ FsmState.swIssueData.chain? = some (.sw, .issueData) := by decide

theorem witness_DoneDeliveryCompletesTheTransfer :
    (hasError 0x00 ((delivered .mwAwaitDone 0 0 0x01 0).tierStatus .mw) = false
      ∧ ((delivered .mwAwaitDone 0 0 0x01 0).tierStatus .mw).getLsbD 0 = true
      ∧ FsmState.mwAwaitDone.chain? = some (.mw, .awaitDone))
    ∧ (hasError 0x00 ((delivered .xrAwaitDone 0 0x01 0 0).tierStatus .xr) = false
      ∧ ((delivered .xrAwaitDone 0 0x01 0 0).tierStatus .xr).getLsbD 0 = true
      ∧ FsmState.xrAwaitDone.chain? = some (.xr, .awaitDone)) := by decide

theorem witness_DeliveryIsBounded :
    (waiting.disp = some Ctx.deliveryStart ∧ Ctx.deliveryStart.isDelivery = true ∧ Ctx.deliveryStart.todo ≠ []
      ∧ ∃ t, dispatcherStep waiting = .next t)
    ∧ ({ delivered .mwParseStatus 0x03 0 0 0 with disp := some Ctx.deliveryStart } : State).disp = some Ctx.deliveryStart
    ∧ (delivered .mwParseStatus 0x03 0 0 0).faulted = none ∧ (delivered .mwParseStatus 0x03 0 0 0).agenda = [] :=
  ⟨⟨rfl, rfl, by decide, _, rfl⟩, rfl, rfl, rfl⟩

theorem witness_BlockingWriteHandsTheBlockToTheDevice :
    Quiet (phase .none .sb 0 [] []) ∧ (phase .none .sb 0 [] []).initialised = true
    ∧ (phase .none .sb 0 [] []).st.errState ≠ .processing ∧ bufferFits (phase .none .sb 0 [] []) 0x1000 = true
    ∧ (phase .none .sb 0 [] []).hid.cmdPhase = .none ∧ (phase .none .sb 0 [] []).cfg.blockWords ≤ fifoDepth (phase .none .sb 0 [] []).cfg
    ∧ responseFits 13#6 (.short 0x0D00000900FF#48) = true ∧ responseFits 24#6 (.short 0x1800000900FF#48) = true
    ∧ parseR1 shallow ((0x0D00000900FF#48).extractLsb' 8 32) = .success
    ∧ parseR1 shallow ((0x1800000900FF#48).extractLsb' 8 32) = .success :=
  ⟨⟨rfl, rfl, rfl, rfl⟩, rfl, by decide, by decide, rfl, by decide, by decide, by decide, by decide, by decide⟩

theorem witness_BlockingReadFillsTheBuffer :
    Quiet (phase .none .sb 0 [] []) ∧ (phase .none .sb 0 [] []).initialised = true
    ∧ (phase .none .sb 0 [] []).st.errState ≠ .processing ∧ bufferFits (phase .none .sb 0 [] []) 0xFFFFFE00 = true
    ∧ (phase .none .sb 0 [] []).hid.cmdPhase = .none ∧ (phase .none .sb 0 [] []).cfg.blockWords ≤ fifoDepth (phase .none .sb 0 [] []).cfg
    ∧ Memory.wf (phase .none .sb 0 [] []).mem = true
    ∧ (List.replicate 128 (7 : Word)).length = (phase .none .sb 0 [] []).cfg.blockWords
    ∧ responseFits 13#6 (.short 0x0D00000900FF#48) = true
    ∧ ((0xFFFFFFFF#32) = shallow.extCsdSentinel ∧ responseFits 8#6 (.short 0x0800000900FF#48) = true)
    ∧ ((5#32) ≠ shallow.extCsdSentinel ∧ responseFits 17#6 (.short 0x1100000900FF#48) = true)
    ∧ parseR1 shallow ((0x0D00000900FF#48).extractLsb' 8 32) = .success
    ∧ parseR1 shallow ((0x0800000900FF#48).extractLsb' 8 32) = .success
    ∧ parseR1 shallow ((0x1100000900FF#48).extractLsb' 8 32) = .success :=
  ⟨⟨rfl, rfl, rfl, rfl⟩, rfl, by decide, by decide, rfl, by decide, rfl, List.length_replicate, by decide, by decide, by decide,
    by decide, by decide, by decide⟩

/-- The k-th R1 answer of a DEVICE that is brought up. -/
def initAnswer : Nat → BitVec 48
  | 0 => 0x0300000900FF
  | 1 => 0x0700000900FF
  | 2 | 4 => 0x0600000900FF
  | 7 => 0x0800000900FF
  | _ => 0x0D00000900FF

theorem initAnswer_ready (k : Nat) : parseR1 State.reset.cfg ((initAnswer k).extractLsb' 8 32) = .success := by
  unfold initAnswer
  split <;> decide

/-- A controller eight bits wide and one of a single line. -/
theorem witness_InitBringsUpTheDevice :
    Quiet State.reset ∧ State.reset.initialised = false ∧ State.reset.hid.cmdPhase = .none
    ∧ State.reset.cfg.blockWords ≤ fifoDepth State.reset.cfg
    ∧ (∀ v ∈ [State.reset.cfg.vrValue, 0x11#8], v.extractLsb' 4 4 ∈ State.reset.cfg.supportedRev ∧ v.extractLsb' 2 2 ≠ 3#2)
    ∧ State.reset.cfg.vrValue.extractLsb' 2 2 ≠ 0#2 ∧ (0x11#8).extractLsb' 2 2 = 0#2
    ∧ (∀ a ∈ [(0, 3#6), (1, 7#6), (2, 6#6), (3, 13#6), (4, 6#6), (5, 13#6), (6, 13#6), (7, 8#6), (8, 13#6)],
        responseFits a.2 (.short (initAnswer a.1)) = true)
    ∧ responseFits 1#6 (.short 0x3FC0FF8080FF#48) = true ∧ responseFits 2#6 cid = true
    ∧ (∀ k, parseR1 State.reset.cfg ((initAnswer k).extractLsb' 8 32) = .success)
    ∧ ((0x3FC0FF8080FF#48).extractLsb' 8 32).getLsbD State.reset.cfg.ocrReadyBit = true
    ∧ ocrMode State.reset.cfg ((0x3FC0FF8080FF#48).extractLsb' 8 32) = State.reset.cfg.ocrModeSector
    ∧ csd.length = State.reset.cfg.blockWords ∧ State.reset.cfg.littleEndian = true
    ∧ (∀ k, csdBytes k = (csd.getD (k / 4) 0#32).extractLsb' (8 * (k % 4)) 8)
    ∧ csdBytes State.reset.cfg.extCsdHsTiming.toNat ≠ 0#8 :=
  ⟨quiet_reset, rfl, rfl, by decide, by decide, by decide, by decide, by decide, by decide, by decide, initAnswer_ready, by decide,
    by decide, by simp [csd, State.reset, Config.reference], rfl, fun _ => rfl, by decide⟩

end Sys2Proof.Tests
end

section
/-! The configuration and the extents of caller memory along every step (00_scope.md rule R5, log entry 8): the frame of
each shared operation gives the frame of the step. -/

namespace Sys2Proof.Machine

/-! ### The frame of a CONTROLLER event -/

/-- The latches of a block tier are controller registers. -/
theorem raiseBlock_frame (tier : Tier) (bits : Byte) (s : State) :
    raiseBlock tier bits s = { s with regs := (raiseBlock tier bits s).regs } := by
  cases tier <;> rfl

/-- What a CONTROLLER event leaves alone (40_register_model.md rules R128 to R134): everything but the controller registers,
the hidden state and the words handed to DEVICE. -/
theorem controllerStep_frame {s t : State} {e : Event} (h : controllerStep e s = some t) :
    t = { s with regs := t.regs, hid := t.hid, deviceWords := t.deviceWords } := by
  cases e <;> simp only [controllerStep] at h
  case wordOut =>
    unfold wordOut at h
    split at h
    · cases h
    · obtain ⟨-, ⟨⟩⟩ := Option.ite_none_right_eq_some.1 h
      rfl
  case dataDone | fifoTimeout =>
    obtain ⟨-, ⟨⟩⟩ := Option.ite_none_right_eq_some.1 h
    rw [raiseBlock_frame]
    rfl
  case cmdSent | respOk | respFail | wordIn =>
    obtain ⟨-, ⟨⟩⟩ := Option.ite_none_right_eq_some.1 h
    rfl

/-! ### What keeps the configuration -/

/-- From `s` to `t` neither the configuration nor the extents of caller memory changed. -/
structure KeepsConfig (s t : State) : Prop where
  cfg_eq : t.cfg = s.cfg
  callerMem_eq : t.callerMem = s.callerMem

theorem KeepsConfig.trans {s t u : State} (h : KeepsConfig s t) (h' : KeepsConfig t u) : KeepsConfig s u :=
  ⟨h'.cfg_eq.trans h.cfg_eq, h'.callerMem_eq.trans h.callerMem_eq⟩

theorem setAgenda_keepsConfig (s : State) (rest : List Turn) : KeepsConfig s (s.setAgenda rest) :=
  ⟨s.setAgenda_cfg rest, s.setAgenda_callerMem rest⟩

theorem readReg_keepsConfig (r : Reg) (s : State) : KeepsConfig s (readReg r s).2 := by
  rw [readReg_frame]
  exact ⟨rfl, rfl⟩

theorem writeReg_keepsConfig {r : Reg} {w : Word} {s t : State} (h : writeReg r w s = .ok t) : KeepsConfig s t := by
  rw [writeReg_frame h]
  exact ⟨rfl, rfl⟩

theorem controllerStep_keepsConfig {e : Event} {s t : State} (h : controllerStep e s = some t) : KeepsConfig s t := by
  rw [controllerStep_frame h]
  exact ⟨rfl, rfl⟩

theorem ctxStep_keepsConfig {c : Ctx} {s t : State} (h : (ctxStep c s).state? = some t) : KeepsConfig s t := by
  rw [ctxStep_frame h]
  exact ⟨rfl, rfl⟩

theorem engineStep_keepsConfig {s t : State} (h : engineStep s = .next t) : KeepsConfig s t := by
  obtain ⟨-, rfl⟩ | ⟨c, u, -, ⟨c', hc, rfl⟩ | ⟨v, hc, rfl⟩⟩ := engineStep_cases h
  · exact ⟨rfl, rfl⟩
  all_goals
    have hu : KeepsConfig s u := ctxStep_keepsConfig (congrArg CtxResult.state? hc)
    exact hu.trans ⟨rfl, rfl⟩

theorem dispatcherStep_keepsConfig {s t : State} (h : dispatcherStep s = .next t) : KeepsConfig s t := by
  obtain ⟨-, rfl⟩ | ⟨c, u, -, ⟨c', hc, rfl⟩ | ⟨v, hc, rfl⟩⟩ := dispatcherStep_cases h
  · exact ⟨rfl, rfl⟩
  all_goals
    have hu : KeepsConfig s u := ctxStep_keepsConfig (congrArg CtxResult.state? hc)
    exact hu.trans ⟨rfl, rfl⟩

/-- An executed instruction touches the configuration no more than the register access it is made of. -/
theorem ExecResult.keepsConfig {s t : State} (h : ExecResult s t) : KeepsConfig s t := by
  cases h with
  | assertFault reason h => subst h; exact ⟨rfl, rfl⟩
  | answered v h => subst h; exact ⟨rfl, rfl⟩
  | read r v h => subst h; exact (readReg_keepsConfig r s).trans ⟨rfl, rfl⟩
  | written r w u hw h => subst h; exact (writeReg_keepsConfig hw).trans ⟨rfl, rfl⟩
  | started p todo point _ _ h => subst h; exact ⟨rfl, rfl⟩
  | entered h => subst h; exact ⟨rfl, rfl⟩

/-- Every kind of turn: its agent's step keeps the configuration, and taking the turn off the agenda does too. -/
theorem TurnResult.keepsConfig {s t : State} {rest : List Turn} (h : TurnResult s t rest) : KeepsConfig s t := by
  refine (setAgenda_keepsConfig s rest).trans ?_
  cases h with
  | passed h => subst h; exact ⟨rfl, rfl⟩
  | dispatcher h => exact dispatcherStep_keepsConfig h
  | engine _ h => exact engineStep_keepsConfig h
  | served _ _ h => exact h.keepsConfig
  | delivered iv _ _ _ h => exact (enterInterrupt_result h).keepsConfig
  | called iv _ _ h => exact (enterInterrupt_result h).keepsConfig
  | event e _ h => exact controllerStep_keepsConfig h

/-- Settles O11, from the frame of every kind of turn. -/
theorem configurationNeverChanges : Obligations.ConfigurationNeverChanges := by
  intro s t h
  obtain ⟨rest, -, turn⟩ := step_cases h
  have kept := turn.keepsConfig
  exact ⟨kept.cfg_eq, kept.callerMem_eq⟩

end Sys2Proof.Machine
end

section
/-! The invariant of the machine (10_state.md rules R22, R30, R35 to R37, R47; 40_register_model.md rules R114, R128;
45_interrupt_state_machine.md rule R235): it holds after reset, and every kind of turn keeps its three parts, the data
(`DataInv`), the ticks (`TicksInv`) and DISPATCHER's position. -/

namespace Sys2Proof.Machine

/-! ### What the invariant speaks of -/

/-- The invariant does not look at the Inst record, the parameters, the fault, the extents and the model's own fields. -/
theorem Inv.congr {s t : State} (h : Inv s)
    (ht : t = { s with
      inst := t.inst, par := t.par, faulted := t.faulted, callerMem := t.callerMem, agenda := t.agenda
      result := t.result, deviceWords := t.deviceWords, draws := t.draws }) : Inv t := by
  rw [ht]
  cases h
  constructor <;> assumption

/-! ### The ticks of the Status record -/

/-- The two ticks of a Status record have `cfg.TICK_BITS` bits (10_state.md rule R22). -/
structure Status.TicksFit (c : Cfg) (t : Status) : Prop where
  start : t.startTick < 2 ^ c.tickBits
  timeout : t.timeoutTicks < 2 ^ c.tickBits

theorem TicksInv.ticksFit {s : State} (h : TicksInv s) : s.st.TicksFit s.cfg :=
  ⟨h.start_tick_fits, h.timeout_ticks_fit⟩

/-- An assignment to `st` of a tick that fits, or of another field, leaves ticks that fit. -/
theorem updateSt_ticksFit {c : Cfg} {t : Status} {u : StUpdate} (h : t.TicksFit c)
    (hu : (Micro.setSt u).ticksFit c = true) : (updateSt u t).TicksFit c := by
  cases u
  case startTick v => exact ⟨of_decide_eq_true hu, h.timeout⟩
  case timeoutTicks v => exact ⟨h.start, of_decide_eq_true hu⟩
  all_goals exact ⟨h.start, h.timeout⟩

/-- A step changes the Status record by the assignment it stands for, and by nothing else. -/
theorem microStep_st {s t : State} {m : Micro} {l l' : Locals} {more : List Micro}
    (h : microStep m l s = .next more l' t) : t.st = applySt [m] s.st := by
  cases m <;> simp only [microStep, readByte] at h
  case write r v =>
    split at h
    · next u hw => cases h; rw [writeReg_frame hw]; rfl
    · cases h
  case fill buf i =>
    split at h
    · next u hw => cases h; rw [writeReg_frame hw]; rfl
    · cases h
  case drain dest i =>
    have read : (readReg .rdr s).2.st = s.st := by rw [readReg_frame]
    cases dest <;> cases h <;> exact read
  all_goals cases h; rfl

/-- A step is done, or it is a polling loop that stays where it is (10_state.md rule R50). -/
theorem microStep_more {s t : State} {m : Micro} {l l' : Locals} {more : List Micro}
    (h : microStep m l s = .next more l' t) : more = [] ∨ more = [m] := by
  have stays : ∀ done : Bool, (if done then [] else [m]) = [] ∨ (if done then [] else [m]) = [m] := fun done => by
    cases done
    · exact .inr rfl
    · exact .inl rfl
  cases m <;> simp only [microStep, readByte] at h
  case pollSent | pollResponse | pollDone =>
    cases h
    exact stays _
  case write | fill =>
    split at h
    · cases h; exact .inl rfl
    · cases h
  case drain dest i => cases dest <;> cases h <;> exact .inl rfl
  all_goals cases h; exact .inl rfl

/-- A delivery assigns no tick. -/
theorem ticksFit_of_deliveryMicro {c : Cfg} {m : Micro} (h : deliveryMicro m = true) : m.ticksFit c = true := by
  cases m
  case setSt u => cases u <;> first | rfl | cases h
  all_goals rfl

theorem Ctx.ticksFit_of_isDelivery {k : Cfg} {c : Ctx} (h : c.isDelivery = true) :
    c.todo.all (Micro.ticksFit k) = true := by
  obtain ⟨htodo, -⟩ := Bool.and_eq_true_iff.1 h
  exact List.all_eq_true.2 fun m hm => ticksFit_of_deliveryMicro (List.all_eq_true.1 htodo m hm)

/-- Every plan a test leads to, ENGINE's or DISPATCHER's, assigns ticks that fit. -/
theorem continueAt_ticksFit {p q : Point} {l l' : Locals} {s : State} {todo : List Micro}
    (h : continueAt p l s = .run todo q l') : todo.all (Micro.ticksFit s.cfg) = true := by
  cases hp : p.ofDelivery with
  | false =>
    have keeps := continueAt_keeps hp l s
    rw [h] at keeps
    exact keeps.1.ticks
  | true =>
    have hd : deliveryPoint p = true := by cases p <;> first | rfl | cases hp
    exact Ctx.ticksFit_of_isDelivery (continueAt_isDelivery hd h)

/-! ### A step of a context -/

theorem ctxStep_data {c : Ctx} {s t : State} (hs : DataInv s) (h : (ctxStep c s).state? = some t) : DataInv t := by
  obtain rfl | ⟨m, rest, more, l, -, hm⟩ := ctxStep_cases h
  · exact hs
  · exact (microStep_data hs hm).1

theorem ctxStep_st_ticksFit {c : Ctx} {s t : State} (hs : s.st.TicksFit s.cfg)
    (hc : c.todo.all (Micro.ticksFit s.cfg) = true) (h : (ctxStep c s).state? = some t) : t.st.TicksFit s.cfg := by
  obtain rfl | ⟨m, rest, more, l, htodo, hm⟩ := ctxStep_cases h
  · exact hs
  · rw [microStep_st hm]
    rw [htodo, List.all_cons, Bool.and_eq_true] at hc
    cases m
    case setSt u => exact updateSt_ticksFit hs hc.1
    all_goals exact hs

theorem settle_ticksFit {p : Point} {l : Locals} {c' : Ctx} {s t : State} (h : settle p l s = .running c' t) :
    c'.todo.all (Micro.ticksFit s.cfg) = true := by
  unfold settle at h
  split at h
  · next hp => cases h; exact continueAt_ticksFit hp
  · cases h

/-- What a context still plans after a step assigns ticks that fit. -/
theorem ctxStep_plan_ticksFit {c c' : Ctx} {s t : State} (hc : c.todo.all (Micro.ticksFit s.cfg) = true)
    (h : ctxStep c s = .running c' t) : c'.todo.all (Micro.ticksFit s.cfg) = true := by
  unfold ctxStep at h
  split at h
  · exact settle_ticksFit h
  · next m rest htodo =>
    rw [htodo, List.all_cons, Bool.and_eq_true] at hc
    obtain ⟨hm, hrest⟩ := hc
    split at h
    · cases h
    · next more l u hstep =>
      have hcfg : u.cfg = s.cfg := by rw [microStep_frame hstep]
      have hplan : (more ++ rest).all (Micro.ticksFit s.cfg) = true := by
        obtain rfl | rfl := microStep_more hstep <;> simp [hm, hrest]
      split at h
      · exact hcfg ▸ settle_ticksFit h
      · next hsplit => cases h; exact hsplit ▸ hplan

/-! ### The turns -/

/-- ENGINE goes on: DISPATCHER's position is left alone. -/
theorem engineStep_inv {s t : State} (hs : Inv s) (h : engineStep s = .next t) : Inv t := by
  obtain ⟨-, rfl⟩ | ⟨c, u, he, hc⟩ := engineStep_cases h
  · exact hs
  have hplan : c.todo.all (Micro.ticksFit s.cfg) = true := by
    have := hs.planned_ticks_fit
    rwa [he] at this
  have after : ∀ {next : Option Ctx}, (ctxStep c s).state? = some u →
      (plannedSteps next).all (Micro.ticksFit s.cfg) = true → Inv (u.setEngine next) := by
    intro next hu hnext
    have hframe := ctxStep_frame hu
    have hcfg : u.cfg = s.cfg := by rw [hframe]
    have hdisp : u.disp = s.disp := by rw [hframe]
    have hst := ctxStep_st_ticksFit hs.ticks.ticksFit hplan hu
    rw [← hcfg] at hst hnext
    have hdata : DataInv (u.setEngine next) := (ctxStep_data hs.data hu).congr rfl rfl rfl rfl rfl rfl
    exact hdata.inv ⟨hst.start, hst.timeout, hnext⟩ fun d hd => hs.delivery d (hdisp ▸ hd)
  obtain ⟨c', hrun, rfl⟩ | ⟨v, hfin, rfl⟩ := hc
  · exact after (congrArg CtxResult.state? hrun) (ctxStep_plan_ticksFit hplan hrun)
  · exact (after (next := none) (congrArg CtxResult.state? hfin) rfl).congr rfl

/-- DISPATCHER goes on: its position stays a delivery, which assigns no tick, and ENGINE's is left alone. -/
theorem dispatcherStep_inv {s t : State} (hs : Inv s) (h : dispatcherStep s = .next t) : Inv t := by
  obtain ⟨-, rfl⟩ | ⟨c, u, hd, hc⟩ := dispatcherStep_cases h
  · exact hs
  have hdelivery := hs.delivery c hd
  have after : ∀ {next : Option Ctx}, (ctxStep c s).state? = some u →
      (∀ d, next = some d → d.isDelivery = true) → Inv (u.setDisp next) := by
    intro next hu hnext
    have hframe := ctxStep_frame hu
    have hcfg : u.cfg = s.cfg := by rw [hframe]
    have hengine : u.engine = s.engine := by rw [hframe]
    have hst := ctxStep_st_ticksFit hs.ticks.ticksFit (Ctx.ticksFit_of_isDelivery hdelivery) hu
    have hplan := hs.planned_ticks_fit
    rw [← hcfg] at hst hplan
    rw [← hengine] at hplan
    have hdata : DataInv (u.setDisp next) := (ctxStep_data hs.data hu).congr rfl rfl rfl rfl rfl rfl
    exact hdata.inv ⟨hst.start, hst.timeout, hplan⟩ hnext
  obtain ⟨c', hrun, rfl⟩ | ⟨v, hfin, rfl⟩ := hc
  · refine after (congrArg CtxResult.state? hrun) fun d hd => ?_
    cases hd
    exact ctxStep_delivery hdelivery hrun
  · exact after (congrArg CtxResult.state? hfin) fun d hd => nomatch hd

/-- An access to the registers that keeps the data part keeps the invariant: the ticks and the two positions stand outside
the registers and the hidden state. -/
theorem Inv.of_access {s t : State} (hs : Inv s) (ht : t = { s with regs := t.regs, hid := t.hid, draws := t.draws })
    (hdata : DataInv t) : Inv t := by
  refine hdata.inv (hs.ticks.congr ?_ ?_ ?_) fun c hc => hs.delivery c ?_
  · rw [ht]
  · rw [ht]
  · rw [ht]
  · rw [ht] at hc
    exact hc

theorem readReg_inv {s : State} (r : Reg) (hs : Inv s) : Inv (readReg r s).2 :=
  hs.of_access (readReg_frame r s) (readReg_data r hs.data)

theorem writeReg_inv {r : Reg} {w : Word} {s t : State} (hs : Inv s) (h : writeReg r w s = .ok t) : Inv t := by
  refine hs.of_access ?_ (writeReg_data hs.data h)
  rw [writeReg_frame h]

/-- A delivery entered is a delivery (60_exceptions.md rule R271). -/
theorem enterDelivery_inv {s : State} (hs : Inv s) : Inv (s.setDisp (some Ctx.deliveryStart)) := by
  have hdata : DataInv (s.setDisp (some Ctx.deliveryStart)) := hs.data.congr rfl rfl rfl rfl rfl rfl
  refine hdata.inv (hs.ticks.congr rfl rfl rfl) fun c hc => ?_
  cases hc
  rfl

/-- An operation begun plans ticks that fit. -/
theorem startOperation_inv {s : State} {c : Ctx} (hs : Inv s) (hk : PlanKeeps s.cfg c.todo) :
    Inv (s.setEngine (some c)) := by
  have hdata : DataInv (s.setEngine (some c)) := hs.data.congr rfl rfl rfl rfl rfl rfl
  exact hdata.inv ⟨hs.start_tick_fits, hs.timeout_ticks_fit, hk.ticks⟩ hs.delivery

/-- An executed instruction keeps the invariant. -/
theorem ExecResult.inv {s t : State} (hs : Inv s) (h : ExecResult s t) : Inv t := by
  cases h with
  | assertFault reason h => subst h; exact hs.congr rfl
  | answered v h => subst h; exact hs.congr rfl
  | read r v h => subst h; exact (readReg_inv r hs).congr rfl
  | written r w u hw h => subst h; exact (writeReg_inv hs hw).congr rfl
  | started p todo point hk _ h =>
    subst h
    have quiet : Inv ((s.setPar p).setResult none) := hs.congr rfl
    exact startOperation_inv quiet hk
  | entered h => subst h; exact enterDelivery_inv hs

/-- An event keeps the invariant: it touches neither ticks nor positions (40_register_model.md rules R128 to R134). -/
theorem controllerStep_inv {e : Event} {s t : State} (hs : Inv s) (h : controllerStep e s = some t) : Inv t := by
  have hframe := controllerStep_frame h
  obtain ⟨hdata, hdisp⟩ := controllerStep_data hs.data h
  refine hdata.inv (hs.ticks.congr ?_ ?_ ?_) fun c hc => hs.delivery c (hdisp ▸ hc)
  all_goals rw [hframe]

/-- Every kind of turn keeps the invariant. -/
theorem TurnResult.inv {s t : State} {rest : List Turn} (hs : Inv s) (h : TurnResult s t rest) : Inv t := by
  have taken : Inv (s.setAgenda rest) := hs.congr rfl
  cases h with
  | passed h => subst h; exact taken
  | dispatcher h => exact dispatcherStep_inv taken h
  | engine _ h => exact engineStep_inv taken h
  | served _ _ h => exact h.inv taken
  | delivered iv _ _ _ h => exact (enterInterrupt_result h).inv taken
  | called iv _ _ h => exact (enterInterrupt_result h).inv taken
  | event e _ h => exact controllerStep_inv taken h

/-- Settles O9: every kind of turn a step can take keeps the invariant. -/
theorem everyStepKeepsTheInvariant : Obligations.EveryStepKeepsTheInvariant := by
  intro s t hs h
  obtain ⟨rest, -, turn⟩ := step_cases h
  exact turn.inv hs

/-! ### Reset -/

/-- Settles O8: no bit is set, no word is in a FIFO, no command is in flight, nothing is in progress, and a tick of zero fits
any width. -/
theorem invariantHoldsAfterReset : Obligations.InvariantHoldsAfterReset where
  cmdx_reserved := rfl
  isr_reserved := rfl
  sbisr_reserved := rfl
  mbisr_reserved := rfl
  imr_reserved := rfl
  sbimr_reserved := rfl
  mbimr_reserved := rfl
  mem_canonical := wf_reset
  wfifo_fits := Nat.zero_le _
  rfifo_fits := Nat.zero_le _
  command_known h := absurd rfl h
  answer_due h := nomatch h
  init_exited h := nomatch h
  start_tick_fits := Nat.two_pow_pos _
  timeout_ticks_fit := Nat.two_pow_pos _
  planned_ticks_fit := rfl
  delivery _ h := nomatch h

/-- Settles O17, by the reset values of 10_state.md rule R51 and 70_reset_and_hazards.md rule R290, field by field. -/
theorem resetLeavesTheControllerIdle : Obligations.ResetLeavesTheControllerIdle :=
  ⟨rfl, rfl, rfl, rfl, rfl, rfl, rfl, rfl, rfl, rfl⟩

end Sys2Proof.Machine
end

section
/-! Who sets a latch (10_state.md rules R36, R37, R52): outside a CONTROLLER event a latch comes on in one way only, `UOF`
of both block tiers at a FIFO port (40_register_model.md rules R116, R117). -/

namespace Sys2Proof.Machine

/-! ### Bits that come on -/

/-- No bit of `mask` is set in `new` that is not set in `old`. -/
def NoNewBits (mask old new : Byte) : Prop := (new &&& ~~~old) &&& mask = 0#8

theorem noNewBits_iff {mask old new : Byte} :
    NoNewBits mask old new ↔ ∀ i, new.getLsbD i = true → mask.getLsbD i = true → old.getLsbD i = true := by
  unfold NoNewBits
  constructor
  · intro h i hn hm
    have hi : ((new &&& ~~~old) &&& mask).getLsbD i = false := by rw [h, BitVec.getLsbD_zero]
    simpa only [BitVec.getLsbD_and, BitVec.getLsbD_not, hn, hm, BitVec.lt_of_getLsbD hn, decide_true, Bool.true_and,
      Bool.and_true, Bool.not_eq_false'] using hi
  · intro h
    refine BitVec.eq_of_getLsbD_eq fun i hi => ?_
    rw [BitVec.getLsbD_zero, Bool.eq_false_iff]
    intro hset
    simp only [BitVec.getLsbD_and, BitVec.getLsbD_not, hi, decide_true, Bool.true_and, Bool.and_eq_true,
      Bool.not_eq_true'] at hset
    obtain ⟨⟨hn, ho⟩, hm⟩ := hset
    exact absurd (h i hn hm) (by rw [ho]; decide)

theorem NoNewBits.refl (mask b : Byte) : NoNewBits mask b b :=
  noNewBits_iff.2 fun _ h _ => h

theorem NoNewBits.trans {mask a b c : Byte} (h : NoNewBits mask a b) (h' : NoNewBits mask b c) : NoNewBits mask a c :=
  noNewBits_iff.2 fun i hc hm => noNewBits_iff.1 h i (noNewBits_iff.1 h' i hc hm) hm

/-- Bits kept from `b`: what a clear register leaves. -/
theorem noNewBits_and (mask b v : Byte) : NoNewBits mask b (b &&& v) :=
  noNewBits_iff.2 fun i h _ => by
    rw [BitVec.getLsbD_and, Bool.and_eq_true] at h
    exact h.1

theorem noNewBits_zero (mask b : Byte) : NoNewBits mask b 0#8 :=
  noNewBits_iff.2 fun i h _ => by simp at h

/-- Bits raised outside the mask. -/
theorem noNewBits_or {mask bits : Byte} (b : Byte) (h : bits &&& mask = 0#8) : NoNewBits mask b (b ||| bits) :=
  noNewBits_iff.2 fun i hi hm => by
    have hand : (bits &&& mask).getLsbD i = false := by rw [h, BitVec.getLsbD_zero]
    have hbit : bits.getLsbD i = false := by rwa [BitVec.getLsbD_and, hm, Bool.and_true] at hand
    rwa [BitVec.getLsbD_or, hbit, Bool.or_false] at hi

/-! ### What sets no latch but `UOF` -/

/-- From `s` to `t` no latch of `ISR` came on, and of a block tier none but `UOF`. -/
structure SetsOnlyUof (s t : State) : Prop where
  isr : NoNewBits 0xFF#8 s.regs.isr t.regs.isr
  sbisr : NoNewBits 0xEF#8 s.regs.sbisr t.regs.sbisr
  mbisr : NoNewBits 0xEF#8 s.regs.mbisr t.regs.mbisr

/-- Nothing but the latches matters. -/
theorem SetsOnlyUof.of_same {s t : State} (h1 : t.regs.isr = s.regs.isr) (h2 : t.regs.sbisr = s.regs.sbisr)
    (h3 : t.regs.mbisr = s.regs.mbisr) : SetsOnlyUof s t :=
  ⟨h1 ▸ .refl _ _, h2 ▸ .refl _ _, h3 ▸ .refl _ _⟩

theorem SetsOnlyUof.of_regs_eq {s t : State} (h : t.regs = s.regs) : SetsOnlyUof s t :=
  .of_same (h ▸ rfl) (h ▸ rfl) (h ▸ rfl)

theorem SetsOnlyUof.trans {s t u : State} (h : SetsOnlyUof s t) (h' : SetsOnlyUof t u) : SetsOnlyUof s u :=
  ⟨h.isr.trans h'.isr, h.sbisr.trans h'.sbisr, h.mbisr.trans h'.mbisr⟩

theorem raiseUof_setsOnlyUof (s : State) : SetsOnlyUof s (raiseUof s) :=
  ⟨.refl _ _, noNewBits_or _ (by decide), noNewBits_or _ (by decide)⟩

theorem softReset_setsOnlyUof (s : State) : SetsOnlyUof s (softReset s) :=
  ⟨noNewBits_zero _ _, noNewBits_zero _ _, noNewBits_zero _ _⟩

/-- A read: only the read of an empty `RDR` sets a latch. -/
theorem readReg_setsOnlyUof (r : Reg) (s : State) : SetsOnlyUof s (readReg r s).2 := by
  cases r
  case rdr =>
    simp only [readReg, readRdr]
    split
    · exact .of_regs_eq rfl
    · have drawn : SetsOnlyUof s (s.setDraws (s.draws + 1)) := .of_regs_eq rfl
      exact drawn.trans (raiseUof_setsOnlyUof _)
  all_goals exact .of_regs_eq rfl

/-- A write: only the write of `WDR` with the FIFO full sets a latch; the clear registers and a software reset clear some. -/
theorem writeReg_setsOnlyUof {r : Reg} {w : Word} {s t : State} (h : writeReg r w s = .ok t) : SetsOnlyUof s t := by
  cases r <;> simp only [writeReg] at h
  case arg4 =>
    unfold writeArg4 at h
    split at h
    · cases h
    · split at h
      · cases h
      · cases h; exact .of_same rfl rfl rfl
  all_goals cases h
  case wdr =>
    unfold writeWdr
    split
    · exact .of_regs_eq rfl
    · exact raiseUof_setsOnlyUof s
  case ctrl =>
    unfold writeCtrl
    split
    · exact softReset_setsOnlyUof s
    · exact .of_same rfl rfl rfl
  case icr => exact ⟨noNewBits_and _ _ _, .refl _ _, .refl _ _⟩
  case sbicr => exact ⟨.refl _ _, noNewBits_and _ _ _, .refl _ _⟩
  case mbicr => exact ⟨.refl _ _, .refl _ _, noNewBits_and _ _ _⟩
  all_goals exact .of_same rfl rfl rfl

/-- A step of ENGINE or DISPATCHER touches the registers by one read or one write at most. -/
theorem microStep_setsOnlyUof {s t : State} {m : Micro} {l l' : Locals} {more : List Micro}
    (h : microStep m l s = .next more l' t) : SetsOnlyUof s t := by
  cases m <;> simp only [microStep, readByte] at h
  case write | fill =>
    split at h
    · next hw => cases h; exact writeReg_setsOnlyUof hw
    · cases h
  case drain dest i =>
    have read := readReg_setsOnlyUof .rdr s
    cases dest <;> cases h
    · exact read.trans (.of_regs_eq rfl)
    · exact read
  all_goals cases h; exact .of_regs_eq rfl

theorem ctxStep_setsOnlyUof {c : Ctx} {s t : State} (h : (ctxStep c s).state? = some t) : SetsOnlyUof s t := by
  obtain rfl | ⟨m, rest, more, l, -, hm⟩ := ctxStep_cases h
  · exact .of_regs_eq rfl
  · exact microStep_setsOnlyUof hm

theorem engineStep_setsOnlyUof {s t : State} (h : engineStep s = .next t) : SetsOnlyUof s t := by
  obtain ⟨-, rfl⟩ | ⟨c, u, -, ⟨c', hc, rfl⟩ | ⟨v, hc, rfl⟩⟩ := engineStep_cases h
  · exact .of_regs_eq rfl
  all_goals exact (ctxStep_setsOnlyUof (congrArg CtxResult.state? hc)).trans (.of_regs_eq rfl)

theorem dispatcherStep_setsOnlyUof {s t : State} (h : dispatcherStep s = .next t) : SetsOnlyUof s t := by
  obtain ⟨-, rfl⟩ | ⟨c, u, -, ⟨c', hc, rfl⟩ | ⟨v, hc, rfl⟩⟩ := dispatcherStep_cases h
  · exact .of_regs_eq rfl
  all_goals exact (ctxStep_setsOnlyUof (congrArg CtxResult.state? hc)).trans (.of_regs_eq rfl)

/-- An executed instruction sets what its register access sets. -/
theorem ExecResult.setsOnlyUof {s t : State} (h : ExecResult s t) : SetsOnlyUof s t := by
  cases h with
  | assertFault reason h => subst h; exact .of_regs_eq rfl
  | answered v h => subst h; exact .of_regs_eq rfl
  | read r v h => subst h; exact (readReg_setsOnlyUof r s).trans (.of_regs_eq rfl)
  | written r w u hw h => subst h; exact (writeReg_setsOnlyUof hw).trans (.of_regs_eq rfl)
  | started p todo point _ _ h => subst h; exact .of_regs_eq rfl
  | entered h => subst h; exact .of_regs_eq rfl

/-- Every kind of turn but a CONTROLLER event. -/
theorem TurnResult.setsOnlyUof {s t : State} {rest : List Turn} (h : TurnResult s t rest)
    (hne : ∀ e rest, s.agenda ≠ .event e :: rest) : SetsOnlyUof s t := by
  have taken : SetsOnlyUof s (s.setAgenda rest) := .of_regs_eq rfl
  refine taken.trans ?_
  cases h with
  | passed h => subst h; exact .of_regs_eq rfl
  | dispatcher h => exact dispatcherStep_setsOnlyUof h
  | engine _ h => exact engineStep_setsOnlyUof h
  | served _ _ h => exact h.setsOnlyUof
  | delivered iv _ _ _ h => exact (enterInterrupt_result h).setsOnlyUof
  | called iv _ _ h => exact (enterInterrupt_result h).setsOnlyUof
  | event e ha _ => exact absurd ha (hne e rest)

/-- Settles O15, from what each kind of turn that is no event can set. -/
theorem latchesAreSetByControllerOrAFifoPort : Obligations.LatchesAreSetByControllerOrAFifoPort := by
  intro s t h hne
  obtain ⟨rest, -, turn⟩ := step_cases h
  obtain ⟨hisr, hsbisr, hmbisr⟩ := turn.setsOnlyUof hne
  refine ⟨?_, hsbisr, hmbisr⟩
  calc t.regs.isr &&& ~~~s.regs.isr = (t.regs.isr &&& ~~~s.regs.isr) &&& 0xFF#8 := BitVec.and_allOnes.symm
    _ = 0#8 := hisr

end Sys2Proof.Machine
end

section
/-! Who writes caller memory (20_memory.md rules R60, R67; 43_blocking_transfers.md rule R201): of all that a step can do, only
ENGINE's move of a word of a block read into the caller's buffer does. -/

namespace Sys2Proof.Machine

/-! ### A step of a context -/

/-- The context's next step moves word `i` of a block read into the caller's buffer at `buf` (rule R201). -/
def Ctx.Moves (c : Ctx) (buf : Word) (i : Nat) : Prop := ∃ rest, c.todo = .drain (.caller buf) i :: rest

theorem microStep_mem {s t : State} {m : Micro} {l l' : Locals} {more : List Micro}
    (h : microStep m l s = .next more l' t) :
    t.mem = s.mem ∨ ∃ buf i w, m = .drain (.caller buf) i ∧ t.mem = setBufWord s.cfg.littleEndian s.mem buf i w := by
  cases m <;> simp only [microStep, readByte] at h
  case write | fill =>
    split at h
    · next hw => cases h; rw [writeReg_frame hw]; exact .inl rfl
    · cases h
  case drain dest i =>
    cases dest with
    | caller buf =>
      cases h
      rw [readReg_frame .rdr s]
      exact .inr ⟨buf, i, _, rfl, rfl⟩
    | scratch => cases h; rw [readReg_frame]; exact .inl rfl
  all_goals cases h; exact .inl rfl

theorem ctxStep_mem {c : Ctx} {s t : State} (h : (ctxStep c s).state? = some t) :
    t.mem = s.mem ∨ ∃ buf i w, c.Moves buf i ∧ t.mem = setBufWord s.cfg.littleEndian s.mem buf i w := by
  obtain rfl | ⟨m, rest, more, l, htodo, hm⟩ := ctxStep_cases h
  · exact .inl rfl
  · obtain kept | ⟨buf, i, w, rfl, moved⟩ := microStep_mem hm
    · exact .inl kept
    · exact .inr ⟨buf, i, w, ⟨rest, htodo⟩, moved⟩

/-- A delivery moves no word of a block (45_interrupt_state_machine.md rules R235 to R249). -/
theorem Ctx.not_moves_of_isDelivery {c : Ctx} (hc : c.isDelivery = true) (buf : Word) (i : Nat) : ¬ c.Moves buf i := by
  rintro ⟨rest, htodo⟩
  simp [Ctx.isDelivery, htodo, deliveryMicro] at hc

/-! ### The turns -/

/-- From `s` to `t` caller memory is as before, or ENGINE moved one word of a block read into it. -/
def WritesOnlyTheMovedWord (s t : State) : Prop :=
  t.mem = s.mem
  ∨ ∃ c buf i w, s.engine = some c ∧ c.Moves buf i ∧ t.mem = setBufWord s.cfg.littleEndian s.mem buf i w

/-- The bytes outside the word moved read as before. -/
theorem WritesOnlyTheMovedWord.read_eq {s t : State} (h : WritesOnlyTheMovedWord s t) (hwf : Memory.wf s.mem = true)
    {a : Nat} (ha : ∀ c buf i, s.engine = some c → c.Moves buf i → a < buf.toNat + 4 * i ∨ buf.toNat + 4 * i + 4 ≤ a) :
    t.mem.read a = s.mem.read a := by
  obtain kept | ⟨c, buf, i, w, hc, hmoves, moved⟩ := h
  · rw [kept]
  · rw [moved]
    exact read_setBufWord_other _ buf i w a hwf (ha c buf i hc hmoves)

theorem engineStep_writesOnlyTheMovedWord {s t : State} (h : engineStep s = .next t) : WritesOnlyTheMovedWord s t := by
  obtain ⟨-, rfl⟩ | ⟨c, u, he, hc⟩ := engineStep_cases h
  · exact .inl rfl
  have stepped : (ctxStep c s).state? = some u ∧ t.mem = u.mem := by
    obtain ⟨c', hrun, rfl⟩ | ⟨v, hfin, rfl⟩ := hc
    · exact ⟨congrArg CtxResult.state? hrun, rfl⟩
    · exact ⟨congrArg CtxResult.state? hfin, rfl⟩
  obtain ⟨hu, hmem⟩ := stepped
  rw [WritesOnlyTheMovedWord, hmem]
  obtain kept | ⟨buf, i, w, hmoves, moved⟩ := ctxStep_mem hu
  · exact .inl kept
  · exact .inr ⟨c, buf, i, w, he, hmoves, moved⟩

/-- DISPATCHER has a delivery in progress or nothing (`Inv`), and a delivery writes no caller memory. -/
theorem dispatcherStep_mem {s t : State} (hs : ∀ c, s.disp = some c → c.isDelivery = true)
    (h : dispatcherStep s = .next t) : t.mem = s.mem := by
  obtain ⟨-, rfl⟩ | ⟨c, u, hd, hc⟩ := dispatcherStep_cases h
  · rfl
  have kept : (ctxStep c s).state? = some u → u.mem = s.mem := fun hu => by
    obtain kept | ⟨buf, i, w, hmoves, -⟩ := ctxStep_mem hu
    · exact kept
    · exact absurd hmoves (Ctx.not_moves_of_isDelivery (hs c hd) buf i)
  obtain ⟨c', hrun, rfl⟩ | ⟨v, hfin, rfl⟩ := hc
  · exact kept (congrArg CtxResult.state? hrun)
  · exact kept (congrArg CtxResult.state? hfin)

/-- An executed instruction writes registers at most: no packet carries a word to caller memory. -/
theorem ExecResult.mem_eq {s t : State} (h : ExecResult s t) : t.mem = s.mem := by
  cases h with
  | assertFault reason h => subst h; rfl
  | answered v h => subst h; rfl
  | read r v h => subst h; rw [readReg_frame]; rfl
  | written r w u hw h => subst h; rw [writeReg_frame hw]; rfl
  | started p todo point _ _ h => subst h; rfl
  | entered h => subst h; rfl

theorem TurnResult.writesOnlyTheMovedWord {s t : State} {rest : List Turn}
    (hs : ∀ c, s.disp = some c → c.isDelivery = true) (h : TurnResult s t rest) : WritesOnlyTheMovedWord s t := by
  cases h with
  | passed h => subst h; exact .inl rfl
  | dispatcher h => exact .inl (dispatcherStep_mem (s := s.setAgenda rest) hs h)
  | engine _ h => exact engineStep_writesOnlyTheMovedWord (s := s.setAgenda rest) h
  | served _ _ h => exact .inl h.mem_eq
  | delivered iv _ _ _ h => exact .inl (enterInterrupt_result h).mem_eq
  | called iv _ _ h => exact .inl (enterInterrupt_result h).mem_eq
  | event e _ h => rw [controllerStep_frame h]; exact .inl rfl

/-- Settles O12: every kind of turn writes the moved word at most, and a byte outside that word reads as before. -/
theorem onlyABlockReadWritesCallerMemory : Obligations.OnlyABlockReadWritesCallerMemory := by
  intro s t a hs h ha
  obtain ⟨rest, -, turn⟩ := step_cases h
  refine (turn.writesOnlyTheMovedWord hs.delivery).read_eq hs.mem_canonical ?_
  rintro c buf i hc ⟨more, htodo⟩
  exact ha c buf i more hc htodo

end Sys2Proof.Machine
end

section
/-! Requests on the agenda (20_memory.md rule R71; log entries 3, 32): what a request waits for, HOST's own call of `isr`, and
the packet served once nothing is in progress. -/

namespace Sys2Proof.Machine

/-! ### The agent in progress -/

/-- DISPATCHER preempts ENGINE (rule R71 item 2). -/
theorem background_of_delivery {s : State} (hd : s.disp ≠ none) : background s = dispatcherStep s :=
  if_pos (Option.isSome_iff_ne_none.2 hd)

theorem background_of_no_delivery {s : State} (hd : s.disp = none) : background s = engineStep s :=
  if_neg (by simp [hd])

theorem engineStep_agenda {s t : State} (h : engineStep s = .next t) : t.agenda = s.agenda := by
  obtain ⟨-, rfl⟩ | ⟨c, u, -, ⟨c', hc, rfl⟩ | ⟨v, hc, rfl⟩⟩ := engineStep_cases h
  · rfl
  all_goals rw [ctxStep_frame (congrArg CtxResult.state? hc)]; rfl

theorem dispatcherStep_agenda {s t : State} (h : dispatcherStep s = .next t) : t.agenda = s.agenda := by
  obtain ⟨-, rfl⟩ | ⟨c, u, -, ⟨c', hc, rfl⟩ | ⟨v, hc, rfl⟩⟩ := dispatcherStep_cases h
  · rfl
  all_goals rw [ctxStep_frame (congrArg CtxResult.state? hc)]; rfl

/-- The agent that goes on takes no turn off the agenda. -/
theorem background_agenda {s t : State} (h : background s = .next t) : t.agenda = s.agenda := by
  by_cases hd : s.disp = none
  · rw [background_of_no_delivery hd] at h
    exact engineStep_agenda h
  · rw [background_of_delivery hd] at h
    exact dispatcherStep_agenda h

/-! ### The turns of HOST -/

/-- A request waits for an operation or a delivery in progress (rule R71 item 4). -/
theorem step_request_waits {s : State} {src : Requester} {bytes : List Byte} {rest : List Turn} (hf : s.faulted = none)
    (ha : s.agenda = .request src bytes :: rest) (hbusy : s.engine ≠ none ∨ s.disp ≠ none) : step s = background s := by
  simp only [step, takeStep, hf, ha, takeTurn]
  refine if_pos ?_
  rwa [Bool.or_eq_true, Option.isSome_iff_ne_none, Option.isSome_iff_ne_none, or_comm]

/-- With nothing in progress the packet of a request is served. -/
theorem step_request_served {s : State} {src : Requester} {bytes : List Byte} {rest : List Turn} (hf : s.faulted = none)
    (he : s.engine = none) (hd : s.disp = none) (ha : s.agenda = .request src bytes :: rest) :
    step s = serve src bytes (s.setAgenda rest) := by
  simp [step, takeStep, hf, ha, takeTurn, hd, he]

/-- HOST's own call of `isr` waits for a delivery in progress, since deliveries do not nest (60_exceptions.md rule R272). -/
theorem step_hostIsr_waits {s : State} {iv : Bool} {rest : List Turn} (hf : s.faulted = none)
    (ha : s.agenda = .hostIsr iv :: rest) (hd : s.disp ≠ none) : step s = background s := by
  simp only [step, takeStep, hf, ha, takeTurn]
  exact if_pos (Option.isSome_iff_ne_none.2 hd)

/-- The entry sets `faulted` or DISPATCHER's position and nothing else (60_exceptions.md rule R271). -/
theorem enterInterrupt_frame {iv : Bool} {s t : State} (h : enterInterrupt iv s = .next t) :
    t = { s with faulted := t.faulted, disp := t.disp } := by
  unfold enterInterrupt at h
  split at h
  · cases h; rfl
  · split at h <;> cases h
    rfl

/-- Settles O6: a waiting request or call leaves the step to the agent in progress; the entry leaves ENGINE's position. -/
theorem requestWaitsForTheOperationInProgress : Obligations.RequestWaitsForTheOperationInProgress := by
  refine ⟨fun s src bytes rest hf ha hbusy => ?_, fun s iv rest hf ha => ⟨fun hd => ?_, fun hd => ?_⟩⟩
  · rw [step_request_waits hf ha hbusy]
    exact ⟨background_of_delivery, background_of_no_delivery, fun t => background_agenda⟩
  · rw [step_hostIsr_waits hf ha hd]
    exact ⟨background_of_delivery hd, fun t => background_agenda⟩
  · have entry : step s = enterInterrupt iv (s.setAgenda rest) := step_hostIsr_turn hf ha hd
    refine ⟨entry, fun t h => ?_⟩
    rw [enterInterrupt_frame (entry.symm.trans h)]
    rfl

/-! ### The packet decoded -/

/-- The decoder reads the byte order and the offsets of the configuration and nothing else of it. -/
theorem decode_congr {c c' : Cfg} (hle : c.littleEndian = c'.littleEndian) (hoff : c.off = c'.off) (bytes : List Byte) :
    decode c bytes = decode c' bytes := by
  unfold decode
  rw [hle, hoff]

theorem instr?_eq_some {d : Decoded} {i : Instr} : d.instr? = some i ↔ d = .instr i := by
  cases d <;> simp [Decoded.instr?]

/-- A table word, under any configuration with the table's byte order and offsets. -/
theorem decode_tableBytes {c : Cfg} {nbits w : Nat} {i : Instr} (hle : c.littleEndian = true)
    (hoff : c.off = Config.offsetTable) (h : decodeTableWord nbits w = some i) :
    decode c (tableBytes c.littleEndian nbits w) = .instr i := by
  rw [hle, decode_congr (c' := Config.reference) hle hoff]
  exact instr?_eq_some.1 h

/-- Whose packet it is decides only whether an internal operation is executed (30_encoding.md rule R98). -/
theorem serve_instr {src : Requester} {bytes : List Byte} {s : State} {i : Instr} (h : decode s.cfg bytes = .instr i)
    (hsrc : internalOnly i = true → src = .engine) : serve src bytes s = exec i s := by
  simp only [serve, h]
  refine if_neg ?_
  rw [Bool.and_eq_true, beq_iff_eq]
  rintro ⟨hi, hhost⟩
  cases hhost.symm.trans (hsrc hi)

theorem requesterFor_internal {c : Cfg} {bytes : List Byte} {i : Instr} (h : decode c bytes = .instr i)
    (hi : internalOnly i = true) : requesterFor c bytes = .engine := by
  simp only [requesterFor, h, hi, if_true]

theorem step_request_instr {s : State} {src : Requester} {bytes : List Byte} {rest : List Turn} {i : Instr}
    (hf : s.faulted = none) (he : s.engine = none) (hd : s.disp = none) (ha : s.agenda = .request src bytes :: rest)
    (hi : decode s.cfg bytes = .instr i) (hsrc : internalOnly i = true → src = .engine) :
    step s = exec i (s.setAgenda rest) :=
  (step_request_served hf he hd ha).trans (serve_instr hi hsrc)

/-- Settles O5: a packet is served as the instruction it decodes to, and a table word is a packet placed as the next turn. -/
theorem stepRunsTheDecodedInstruction : Obligations.StepRunsTheDecodedInstruction := by
  refine ⟨fun s src bytes rest i hf he hd ha hi hsrc => step_request_instr hf he hd ha hi hsrc,
    fun s nbits w i hle hoff hw => ?_⟩
  have decoded := decode_tableBytes hle hoff hw
  exact step_request_instr (s := s.withFetchWord nbits w) rfl rfl rfl rfl decoded (requesterFor_internal decoded)

end Sys2Proof.Machine
end

section
/-! What a packet stands for and what stands for it (30_encoding.md rules R85, R86, R95, R98; log entries 13, 15): the
fields of each format put together and taken apart, then the decoder against the encoder in both directions. -/

namespace Sys2Proof

/-! ### Words and their fields -/

/-- The unused bits of an operand are zero exactly if its used bits, zero-extended, are the operand (log entry 15). -/
theorem high_zero_iff {n m : Nat} (hw : n + m = 32) (v : Word) :
    v.extractLsb' n m = 0#m ↔ (v.setWidth n).setWidth 32 = v := by
  constructor
  · intro high
    ext i hi
    by_cases hin : i < n
    · simp [hin, BitVec.getLsbD_eq_getElem, hi]
    · have bit := congrArg (BitVec.getLsbD · (i - n)) high
      simpa [hin, show i - n < m by omega, show n + (i - n) = i by omega, BitVec.getLsbD_eq_getElem, hi] using bit.symm
  · intro low
    rw [← low]
    ext i hi
    simp

theorem cut_widened {n : Nat} (hn : n ≤ 32) (v : BitVec n) : (v.setWidth 32).setWidth n = v := by
  rw [BitVec.setWidth_setWidth_of_le v hn, BitVec.setWidth_eq]

/-- A data word is a value of its size exactly if cutting it to that size loses nothing (rule R85). -/
theorem Size.fits_iff {sz : Size} {v : Word} : sz.fits v = true ↔ (v.setWidth (8 * sz.bytes)).setWidth 32 = v := by
  cases sz with
  | byte => exact beq_iff_eq.trans (high_zero_iff (m := 24) rfl v)
  | half => exact beq_iff_eq.trans (high_zero_iff (m := 16) rfl v)
  | word => simp [Size.fits, Size.bytes]

theorem bytes_of_pair (a b : Byte) : (a ++ b).extractLsb' 8 8 = a ∧ (a ++ b).extractLsb' 0 8 = b :=
  ⟨BitVec.extractLsb'_append_eq_left, BitVec.extractLsb'_append_eq_right⟩

theorem bytes_of_four (a b c d : Byte) :
    (a ++ b ++ c ++ d).extractLsb' 24 8 = a ∧ (a ++ b ++ c ++ d).extractLsb' 16 8 = b
    ∧ (a ++ b ++ c ++ d).extractLsb' 8 8 = c ∧ (a ++ b ++ c ++ d).extractLsb' 0 8 = d := by
  simp only [BitVec.extractLsb'_append_eq_ite]
  simp

theorem bytesOfHalf_halfOfBytes (le : Bool) (b0 b1 : Byte) : bytesOfHalf le (halfOfBytes le b0 b1) = [b0, b1] := by
  cases le <;> simp [bytesOfHalf, halfOfBytes, bytes_of_pair]

theorem bytesOfWord_wordOfBytes (le : Bool) (b0 b1 b2 b3 : Byte) :
    bytesOfWord le (wordOfBytes le b0 b1 b2 b3) = [b0, b1, b2, b3] := by
  cases le <;> simp [bytesOfWord, wordOfBytes, bytes_of_four]

/-! ### Format `REG`: the header (rule R85) -/

/-- The fields `W`, `SZ`, the zero bits and `OFF` of a header put together. -/
theorem fields_of_header (w : BitVec 1) (sz : BitVec 2) (z : BitVec 6) (off : BitVec 7) :
    (w ++ sz ++ z ++ off).extractLsb' 15 1 = w ∧ (w ++ sz ++ z ++ off).extractLsb' 13 2 = sz
    ∧ (w ++ sz ++ z ++ off).extractLsb' 7 6 = z ∧ (w ++ sz ++ z ++ off).extractLsb' 0 7 = off := by
  simp only [BitVec.extractLsb'_append_eq_ite]
  simp

/-- A header is its four fields and nothing else. -/
theorem header_of_fields (header : BitVec 16) :
    header.extractLsb' 15 1 ++ header.extractLsb' 13 2 ++ header.extractLsb' 7 6 ++ header.extractLsb' 0 7 = header := by
  simp only [BitVec.extractLsb'_append_extractLsb'_eq_extractLsb']
  simp

theorem sizeOfCode_eq_some {code : BitVec 2} {sz : Size} : sizeOfCode code = some sz ↔ sz.code = code := by
  revert code
  cases sz <;> decide

/-- What an access reaches has the size and the offset of the access (20_memory.md rule R63). -/
theorem regAt_eq_some {t : OffsetTable} {sz : Size} {off : BitVec 7} {r : Reg} (h : regAt t sz off = some r) :
    r.size = sz ∧ r.offset t = off := by
  simpa using List.find?_some h

theorem regHeader_of_fields {t : OffsetTable} {header : BitVec 16} {r : Reg} {sz : Size}
    (hz : header.extractLsb' 7 6 = 0#6) (hsz : sizeOfCode (header.extractLsb' 13 2) = some sz)
    (hr : regAt t sz (header.extractLsb' 0 7) = some r) :
    regHeader t (header.extractLsb' 15 1 == 1#1) r = header := by
  obtain ⟨hsize, hoff⟩ := regAt_eq_some hr
  have hw : ∀ w : BitVec 1, BitVec.ofBool (w == 1#1) = w := by decide
  rw [regHeader, hw, hsize, sizeOfCode_eq_some.1 hsz, ← hz, hoff]
  exact header_of_fields header

/-! ### Format `REG`: decoding -/

theorem Cfg.off_wellFormed {c : Cfg} (h : c.wellFormed = true) : c.off.wellFormed = true := by
  simp only [Cfg.wellFormed, Bool.and_eq_true] at h
  simp only [h]

/-- The header of a register, in a well-formed offset table, reaches that register. -/
theorem decodeReg_regHeader {t : OffsetTable} (ht : t.wellFormed = true) (write : Bool) (r : Reg) (data : Word) :
    decodeReg t (regHeader t write r) data =
      if write then (if r.size.fits data then .instr (writeInstr r data) else .rejected .badRequest)
      else (if data == 0#32 then .instr (readInstr r) else .rejected .badRequest) := by
  obtain ⟨hw, hsz, hz, hoff⟩ := fields_of_header (BitVec.ofBool write) r.size.code 0#6 (r.offset t)
  rw [← regHeader] at hw hsz hz hoff
  have inside : ¬ 0x51 < (r.offset t).toNat := by
    have := offset_inside ht r
    have : 0 < r.size.bytes := by cases r.size <;> decide
    omega
  simp only [decodeReg, hw, hsz, hz, hoff, sizeOfCode_eq_some.2 rfl, offset_not_reserved, regAt_offset ht, inside]
  cases write <;> simp

theorem decode_encodeReg_read {c : Cfg} (ht : c.off.wellFormed = true) (r : Reg) :
    decode c (encodeReg c false r 0#32) = .instr (readInstr r) := by
  rw [encodeReg, decode_reg, decodeReg_regHeader ht]
  rfl

theorem decode_encodeReg_write {c : Cfg} (ht : c.off.wellFormed = true) (r : Reg) {v : Word} {i : Instr}
    (hv : r.size.fits v = true) (hi : writeInstr r v = i) : decode c (encodeReg c true r v) = .instr i := by
  rw [encodeReg, decode_reg, decodeReg_regHeader ht, if_pos rfl, if_pos hv, hi]

/-- The only packets of format `REG` that are instructions: a register's own header, with no data for a read and with
data of the register's size for a write. -/
theorem decodeReg_eq_instr {t : OffsetTable} {header : BitVec 16} {data : Word} {i : Instr}
    (h : decodeReg t header data = .instr i) :
    ∃ r, (regHeader t true r = header ∧ r.size.fits data = true ∧ i = writeInstr r data)
      ∨ (regHeader t false r = header ∧ data = 0#32 ∧ i = readInstr r) := by
  simp only [decodeReg] at h
  split at h
  · cases h
  next hbad =>
  obtain ⟨hz, -⟩ : header.extractLsb' 7 6 = 0#6 ∧ (header.extractLsb' 0 7).toNat ≤ 0x51 := by simpa using hbad
  split at h
  · cases h
  next sz hsz =>
  split at h
  · split at h <;> split at h <;> cases h
  split at h
  · cases h
  next r hr =>
  have hheader := regHeader_of_fields hz hsz hr
  refine ⟨r, ?_⟩
  split at h
  next hw =>
    split at h
    next hfits =>
      cases h
      rw [hw] at hheader
      exact .inl ⟨hheader, (regAt_eq_some hr).1 ▸ hfits, rfl⟩
    · cases h
  next hw =>
    split at h
    next hdata =>
      cases h
      rw [eq_false_of_ne_true hw] at hheader
      exact .inr ⟨hheader, beq_iff_eq.1 hdata, rfl⟩
    · cases h

/-- What rule R98 names of a header: a size or an offset that does not exist, a bit outside the fields. -/
theorem decodeReg_of_bad_header {t : OffsetTable} {header : BitVec 16}
    (h : header.extractLsb' 13 2 = 3#2 ∨ header.extractLsb' 7 6 ≠ 0#6 ∨ 0x51 < (header.extractLsb' 0 7).toNat)
    (data : Word) : decodeReg t header data = .rejected .badTransaction := by
  simp only [decodeReg]
  obtain hsz | hz | hoff := h
  · rw [hsz]
    exact ite_self _
  · exact if_pos (by rw [bne_iff_ne.2 hz, Bool.true_or])
  · exact if_pos (by rw [decide_eq_true hoff, Bool.or_true])

/-! ### Format `REG`: encoding -/

theorem encode_readInstr (c : Cfg) (r : Reg) : encode c (readInstr r) = encodeReg c false r 0#32 := by
  cases r with
  | rr n =>
    match n with
    | 0 | 1 | 2 | 3 | 4 | 5 | 6 | 7 | 8 | 9 | 10 | 11 | 12 | 13 | 14 | 15 | 16 => rfl
    | ⟨k + 17, hk⟩ => omega
  | _ => rfl

/-- A write carries its data at the register's width, so data of the register's size comes back whole. -/
theorem encode_writeInstr (c : Cfg) (r : Reg) {v : Word} (hv : r.size.fits v = true) :
    encode c (writeInstr r v) = encodeReg c true r v := by
  cases r with
  | rr n =>
    match n with
    | 0 | 1 | 2 | 3 | 4 | 5 | 6 | 7 | 8 | 9 | 10 | 11 | 12 | 13 | 14 | 15 | 16 =>
      exact congrArg (encodeReg c true _) (Size.fits_iff.1 hv)
    | ⟨k + 17, hk⟩ => omega
  | wdr | rdr | datato => rfl
  | _ => exact congrArg (encodeReg c true _) (Size.fits_iff.1 hv)

/-! ### Format `CMD` (rule R86) -/

/-- A command that decodes is encoded with its index in `CMDX[5:0]`. -/
theorem encode_of_decodeCmd {x : Byte} {arg : Word} {i : Instr} (h : decodeCmd x arg = .instr i) (c : Cfg) :
    encode c i = encodeCmd (x.extractLsb' 0 6) arg := by
  unfold decodeCmd at h
  split at h <;> cases h
  all_goals
    next hindex => exact congrArg (encodeCmd · arg) (BitVec.eq_of_toNat_eq hindex).symm

theorem bytesOfWord_bigEndian (a1 a2 a3 a4 : Byte) : bytesOfWord false (a1 ++ a2 ++ a3 ++ a4) = [a1, a2, a3, a4] :=
  bytesOfWord_wordOfBytes false a1 a2 a3 a4

/-- The two bits above the index are no part of it (rule R98). -/
theorem index_of_masked (x : Byte) : (x &&& 0x3F#8).extractLsb' 0 6 = x.extractLsb' 0 6 := by
  revert x
  decide

theorem index_widened (x : Byte) : (x.extractLsb' 0 6).setWidth 8 = x &&& 0x3F#8 := by
  revert x
  decide

/-- The decoder's rows are those of the command table (rule R150). -/
theorem decodeCmd_of_no_row {x : Byte} (arg : Word) (h : Machine.respClass (x.extractLsb' 0 6) = none) :
    decodeCmd x arg = .rejected .unknownIndex := by
  unfold Machine.respClass at h
  split at h
  case h_15 =>
    unfold decodeCmd
    split
    case h_15 => rfl
    all_goals contradiction
  all_goals cases h

/-! ### Format `OP` (rule R95) -/

/-- The flag byte that carries `iv` has no other bit. -/
theorem flags_of_iv (iv : Bool) :
    ((BitVec.ofBool iv).setWidth 8).extractLsb' 1 7 = 0#7 ∧ ((BitVec.ofBool iv).setWidth 8).getLsbD 0 = iv := by
  cases iv <;> decide

theorem iv_of_flags {flags : Byte} (h : flags.extractLsb' 1 7 = 0#7) :
    (BitVec.ofBool (flags.getLsbD 0)).setWidth 8 = flags := by
  revert flags
  decide

theorem policyOfCode_code (p : Policy) : policyOfCode p.code = some p := by
  cases p <;> rfl

theorem code_of_policyOfCode {v : Word} {p : Policy} (h : policyOfCode v = some p) : p.code = v := by
  unfold policyOfCode at h
  split at h
  next hv => cases h; exact (beq_iff_eq.1 hv).symm
  split at h
  next hv => cases h; exact (beq_iff_eq.1 hv).symm
  split at h
  next hv => cases h; exact (beq_iff_eq.1 hv).symm
  cases h

/-- 3 is not a policy (rule R98), nor is anything above it (log entry 15). -/
theorem policyOfCode_eq_none {v : Word} (h : 3 ≤ v.toNat) : policyOfCode v = none := by
  have other : ∀ n < 3, (v == BitVec.ofNat 32 n) = false := by
    intro n hn
    rw [beq_eq_false_iff_ne]
    rintro rfl
    rw [BitVec.toNat_ofNat] at h
    omega
  simp [policyOfCode, other]

theorem decode_encodeOp (c : Cfg) (op : Byte) (iv : Bool) (x y z w : Word) :
    decode c (encodeOp c.littleEndian op iv x y z w) = decodeOp op ((BitVec.ofBool iv).setWidth 8) x y z w :=
  decode_op c op _ x y z w

/-- A request is an instruction exactly if its operands are allowed. -/
theorem allow_eq_instr {ok : Bool} {i j : Instr} {e : DecodeError} :
    (if ok then Decoded.instr i else .rejected e) = .instr j ↔ ok = true ∧ i = j := by
  cases ok <;> simp

/-- A request that decodes is encoded with the same operation, flags and operands. -/
theorem encode_of_decodeOp {op flags : Byte} {x y z w : Word} {i : Instr} (h : decodeOp op flags x y z w = .instr i)
    (c : Cfg) : encode c i = encodeOp c.littleEndian op (flags.getLsbD 0) x y z w
      ∧ (BitVec.ofBool (flags.getLsbD 0)).setWidth 8 = flags := by
  simp only [decodeOp] at h
  split at h
  · cases h
  next hflags =>
  refine ⟨?_, iv_of_flags (by simpa using hflags)⟩
  split at h
  case h_13 hop =>
    split at h
    · cases h
    next p hp =>
    obtain ⟨hfits, rfl⟩ := allow_eq_instr.1 h
    simp only [Bool.and_eq_true, beq_iff_eq, high_zero_iff] at hfits
    simp only [encode, hfits, code_of_policyOfCode hp]
    exact congrArg (encodeOp _ · _ _ _ _ _) (BitVec.eq_of_toNat_eq hop.symm)
  case h_15 => cases h
  all_goals
    next hop =>
    obtain ⟨hfits, rfl⟩ := allow_eq_instr.1 h
    simp only [Bool.and_eq_true, beq_iff_eq, high_zero_iff] at hfits
    simp only [encode, hfits]
    exact congrArg (encodeOp _ · _ _ _ _ _) (BitVec.eq_of_toNat_eq hop.symm)

theorem decodeOp_of_flags {flags : Byte} (h : flags.extractLsb' 1 7 ≠ 0#7) (op : Byte) (x y z w : Word) :
    decodeOp op flags x y z w = .rejected .badRequest :=
  if_pos (bne_iff_ne.2 h)

/-- The operations of rule R95 are 0x01 to 0x0E. -/
theorem decodeOp_of_no_operation {op : Byte} (h : op = 0#8 ∨ 0x0E < op.toNat) (flags : Byte) (x y z w : Word) :
    decodeOp op flags x y z w = .rejected .badRequest := by
  have other : op.toNat = 0 ∨ 0x0E < op.toNat := h.imp_left (congrArg BitVec.toNat)
  simp only [decodeOp]
  split
  · rfl
  split
  case h_15 => rfl
  all_goals omega

theorem decodeOp_of_no_policy {z : Word} (h : policyOfCode z = none) (flags : Byte) (x y w : Word) :
    decodeOp 0x0D#8 flags x y z w = .rejected .badRequest := by
  simp [decodeOp, h]

/-- HOST cannot request an internal operation (rule R98). -/
theorem serve_internal_from_host {s : Machine.State} {bytes : List Byte} {i : Instr} (h : decode s.cfg bytes = .instr i)
    (hi : Machine.internalOnly i = true) : Machine.serve .host bytes s = .refused .badRequest := by
  simp only [Machine.serve, h]
  exact if_pos (by rw [hi]; rfl)

/-! ### The statements -/

/-- Settles O1: the packet reaches its format, and the format gives back the constructor with its operands. The operand
conditions of the rows are not needed: the decoder selects by index or `op` alone (log entry 14). -/
theorem decodeOfEncodeIsTheInstruction : Obligations.DecodeOfEncodeIsTheInstruction := by
  intro c i hc _
  have ht := Cfg.off_wellFormed hc
  cases i with
  | goIdleState | sendOpCond | allSendCid | setRelativeAddr | switch | selectCard | sendExtCsd | stopTransmission
  | sendStatus | readSingleBlock | readMultipleBlock | setBlockCount | writeSingleBlock | writeMultipleBlock =>
    exact decode_cmd c _ _
  | init | sbw | sbr | sbwNb | sbrNb | mbw | mbr | status | isr | initFifo | wfifoAddr | rfifoAddr | sendCommand
  | issueCommand =>
    refine (decode_encodeOp c _ _ _ _ _ _).trans ?_
    simp [decodeOp, flags_of_iv, high_zero_iff, policyOfCode_code]
  | r8Sr | r8Vr | r8Mjvr | r8Mivr | r8Cmdx | r8Arg1 | r8Arg2 | r8Arg3 | r8Arg4 | r8Rr0 | r8Rr1 | r8Rr2 | r8Rr3
  | r8Rr4 | r8Rr5 | r8Rr6 | r8Rr7 | r8Rr8 | r8Rr9 | r8Rr10 | r8Rr11 | r8Rr12 | r8Rr13 | r8Rr14 | r8Rr15
  | r8Rr16 | r32Wdr | r32Rdr | r8Imr | r8Sbimr | r8Mbimr | r8Isr | r8Sbisr | r8Mbisr | r8Icr | r8Sbicr
  | r8Mbicr | r8Ctrl | r8Sbcsr | r8Mbcsr | r8Clkr | r32Datato | r16Blr =>
    exact decode_encodeReg_read ht _
  | w32Wdr | w32Rdr | w32Datato => exact decode_encodeReg_write ht _ rfl rfl
  | w16Blr v =>
    have cut := cut_widened (n := 16) (by decide) v
    exact decode_encodeReg_write ht _ (Size.fits_iff.2 (congrArg (BitVec.setWidth 32) cut)) (congrArg _ cut)
  | _ v =>
    have cut := cut_widened (n := 8) (by decide) v
    exact decode_encodeReg_write ht _ (Size.fits_iff.2 (congrArg (BitVec.setWidth 32) cut)) (congrArg _ cut)

/-- Settles O2: by the length of the packet, each format's inversion gives back the bytes it was read from. -/
theorem encodeOfDecodeIsThePacket : Obligations.EncodeOfDecodeIsThePacket := by
  intro c bytes i h
  unfold decode at h
  split at h
  case h_1 h0 h1 d0 d1 d2 d3 =>
    have joined (write : Bool) (r : Reg) (hr : regHeader c.off write r = halfOfBytes c.littleEndian h0 h1) :
        encodeReg c write r (wordOfBytes c.littleEndian d0 d1 d2 d3) = [h0, h1, d0, d1, d2, d3] := by
      rw [encodeReg, hr, bytesOfHalf_halfOfBytes, bytesOfWord_wordOfBytes]
      rfl
    left
    obtain ⟨r, ⟨hr, hv, rfl⟩ | ⟨hr, hdata, rfl⟩⟩ := decodeReg_eq_instr h
    · rw [encode_writeInstr c r hv, joined true r hr]
    · rw [encode_readInstr, ← hdata, joined false r hr]
  case h_2 x a1 a2 a3 a4 =>
    refine .inr ⟨x, a1, a2, a3, a4, rfl, ?_⟩
    rw [encode_of_decodeCmd h c, encodeCmd, index_widened, bytesOfWord_bigEndian]
  case h_3 =>
    left
    obtain ⟨hi, hflags⟩ := encode_of_decodeOp h c
    simp only [hi, encodeOp, hflags, bytesOfWord_wordOfBytes, List.cons_append, List.nil_append]
  case h_4 => cases h

/-- Settles O3: the eight packets are read in full. -/
theorem wordsOfTheSpecDecode : Obligations.WordsOfTheSpecDecode := by
  refine ⟨?_, ?_, ?_, ?_, ?_, ?_, ?_, ?_⟩ <;> decide

/-- Settles O4: the rejections of each format, and the refusal of an internal operation when its packet is served. -/
theorem encodingsNotAdmittedAreRejected : Obligations.EncodingsNotAdmittedAreRejected := by
  refine ⟨fun k header data h => ?_, fun k x a1 a2 a3 a4 => ⟨?_, fun h => decodeCmd_of_no_row _ h⟩,
    fun k op flags a b c d h => ?_, fun s bytes rest i hf he hd ha hi hinternal => ?_⟩
  · rw [decode_reg]
    exact decodeReg_of_bad_header h data
  · simp only [decode, decodeCmd, index_of_masked]
  · rw [decode_op]
    obtain hop | hop | hflags | ⟨rfl, hc⟩ := h
    · exact decodeOp_of_no_operation (.inl hop) flags a b c d
    · exact decodeOp_of_no_operation (.inr hop) flags a b c d
    · exact decodeOp_of_flags hflags op a b c d
    · exact decodeOp_of_no_policy (policyOfCode_eq_none hc) flags a b d
  · rw [Machine.step_request_served hf he hd ha]
    exact serve_internal_from_host (s := s.setAgenda rest) hi hinternal

end Sys2Proof
end

section
/-! Register transactions requested by HOST (40_register_model.md rules R110 to R125, R137): what each kind of access
leaves and hands over, said once for every register, then the statements register by register. The header of each
(30_encoding.md rule R85) is computed from its encoding. -/

namespace Sys2Proof.Machine

/-! ### Reads -/

/-- A read of a one-byte register hands the byte over; the read itself leaves `t`. -/
theorem hostRead_byte (r : Reg) (s : State) {b : Byte} {t : State} (hsize : r.size = .byte)
    (h : readReg r s = (b.zext, t)) : hostRead r s = .next (t.setResult (some (.read8 b))) := by
  simp only [hostRead, h, hsize, lowByte_zext, answer]

theorem hostRead_half (r : Reg) (s : State) {w : Word} {t : State} (hsize : r.size = .half) (h : readReg r s = (w, t)) :
    hostRead r s = .next (t.setResult (some (.read16 (w.setWidth 16)))) := by
  simp only [hostRead, h, hsize, answer]

theorem hostRead_word (r : Reg) (s : State) {w : Word} {t : State} (hsize : r.size = .word) (h : readReg r s = (w, t)) :
    hostRead r s = .next (t.setResult (some (.read32 w))) := by
  simp only [hostRead, h, hsize, answer]

/-- `CTRL` reads as `CLKOE` at bit 1 and zeros (rule R121). -/
theorem readReg_ctrl (s : State) :
    readReg .ctrl s = (Byte.zext (0#6 ++ BitVec.ofBool s.regs.clkoe ++ 0#1), s) := by
  simp only [readReg]
  cases s.regs.clkoe <;> rfl

/-- The three low latches of a block tier, as a control-status register shows them (rule R122). -/
theorem low_latches (b : Byte) : b &&& 0x07#8 = 0#5 ++ b.extractLsb' 0 3 := by
  revert b
  decide

theorem readReg_sbcsr (s : State) : readReg .sbcsr s = (Byte.zext (0#5 ++ s.regs.sbisr.extractLsb' 0 3), s) := by
  simp only [readReg, low_latches]

theorem readReg_mbcsr (s : State) : readReg .mbcsr s = (Byte.zext (0#5 ++ s.regs.mbisr.extractLsb' 0 3), s) := by
  simp only [readReg, low_latches]

theorem readRdr_cons {s : State} {w : Word} {rest : List Word} (h : s.hid.rfifo = w :: rest) :
    readReg .rdr s = (w, s.setHid { s.hid with rfifo := rest }) := by
  simp only [readReg, readRdr, h]

theorem readRdr_nil {s : State} (h : s.hid.rfifo = []) :
    readReg .rdr s = (Config.draw32 s.draws, raiseUof (s.setDraws (s.draws + 1))) := by
  simp only [readReg, readRdr, h]

/-! ### Writes -/

theorem hostWrite_ok {r : Reg} {w : Word} {s t : State} (h : writeReg r w s = .ok t) :
    hostWrite r w s = .next (t.setResult none) := by
  simp only [hostWrite, h, answer]

/-- A write of a register that ignores it (rules R110, R111, R115, R117, R119, R122, R125). -/
theorem hostWrite_ignored (r : Reg) (s : State) (h : ∀ w, writeReg r w s = .ok s) (w : Word) :
    hostWrite r w s = .next (s.setResult none) :=
  hostWrite_ok (h w)

/-- A write of a one-byte register that stores: it sees the byte written, whatever word carries it. -/
theorem hostWrite_byte (r : Reg) (v : Byte) (s : State) (g : Byte → Regs)
    (h : ∀ w : Word, writeReg r w s = .ok (s.setRegs (g w.lowByte))) :
    hostWrite r v.zext s = .next ((s.setRegs (g v)).setResult none) := by
  rw [hostWrite_ok (h _), lowByte_zext]

theorem hostWrite_refused {r : Reg} {w : Word} {s : State} {e : Refusal} (h : writeReg r w s = .error e) :
    hostWrite r w s = .refused e := by
  simp only [hostWrite, h]

theorem writeArg4_in_flight (v : Byte) {s : State} (h : s.hid.cmdPhase ≠ .none) :
    writeArg4 v s = .error .commandInFlight :=
  if_pos h

theorem writeArg4_unknown (v : Byte) {s : State} (h : s.hid.cmdPhase = .none)
    (hindex : respClass (s.regs.cmdx.extractLsb' 0 6) = none) : writeArg4 v s = .error .unknownIndex := by
  rw [writeArg4, if_neg (fun hne => hne h), if_pos hindex]

/-- The trigger (rule R114): the command stands latched at this instant (20_memory.md rule R74). -/
theorem writeArg4_triggers (v : Byte) {s : State} (h : s.hid.cmdPhase = .none)
    (hindex : respClass (s.regs.cmdx.extractLsb' 0 6) ≠ none) :
    writeArg4 v s = .ok ((s.setRegs { s.regs with arg4 := v }).setHid
      { s.hid with
        curIndex := s.regs.cmdx.extractLsb' 0 6
        curArg := s.regs.arg1 ++ s.regs.arg2 ++ s.regs.arg3 ++ v
        cmdPhase := .sending }) := by
  rw [writeArg4, if_neg (fun hne => hne h), if_neg hindex]

theorem writeReg_arg4 (v : Byte) (s : State) : writeReg .arg4 v.zext s = writeArg4 v s := by
  simp only [writeReg, lowByte_zext]

theorem writeReg_ctrl (v : Byte) (s : State) : writeReg .ctrl v.zext s = .ok (writeCtrl v s) := by
  simp only [writeReg, lowByte_zext]

/-- Bit 0 of `CTRL` resets the controller half (rules R121, R137). -/
theorem writeCtrl_resets {v : Byte} (h : v.getLsbD 0 = true) (s : State) : writeCtrl v s = softReset s :=
  if_pos h

theorem writeCtrl_enables {v : Byte} (h : v.getLsbD 0 = false) (s : State) :
    writeCtrl v s = (s.setRegs { s.regs with clkoe := v.getLsbD 1 }).setHid
      { s.hid with
        wfifo := if v.getLsbD 2 then [] else s.hid.wfifo
        rfifo := if v.getLsbD 3 then [] else s.hid.rfifo } :=
  if_neg (Bool.not_eq_true _ ▸ h)

theorem writeWdr_pushes (v : Word) {s : State} (h : s.hid.wfifo.length < fifoDepth s.cfg) :
    writeWdr v s = s.setHid { s.hid with wfifo := s.hid.wfifo ++ [v] } :=
  if_pos h

theorem writeWdr_full (v : Word) {s : State} (h : fifoDepth s.cfg ≤ s.hid.wfifo.length) : writeWdr v s = raiseUof s :=
  if_neg (Nat.not_lt.2 h)

/-! ### The interrupt line -/

/-- `irq` is 1 exactly if a latch is set and unmasked (rule R127). -/
theorem irq_eq_true_iff (s : State) : irq s = true ↔
    s.regs.isr &&& s.regs.imr ≠ 0#8 ∨ s.regs.sbisr &&& s.regs.sbimr ≠ 0#8 ∨ s.regs.mbisr &&& s.regs.mbimr ≠ 0#8 := by
  rw [irq, bne_iff_ne, Ne, BitVec.or_eq_zero_iff, BitVec.or_eq_zero_iff, Decidable.not_and_iff_or_not,
    Decidable.not_and_iff_or_not, or_assoc]

/-! ### The statements -/

/-- Settles O18: the read is a draw, which the model's counter numbers (log entry 6). -/
theorem statusRegisterReadIsADraw : Obligations.StatusRegisterReadIsADraw := by
  refine ⟨rfl, fun v => rfl, fun s => ⟨?_, fun v => ?_⟩⟩
  · exact hostRead_byte .sr s rfl rfl
  · exact hostWrite_ignored .sr s (fun _ => rfl) (v.setWidth 32)

/-- Settles O20: each write sets its own register, from the byte written. -/
theorem commandAndArgumentRegistersOnlyStore : Obligations.CommandAndArgumentRegistersOnlyStore := by
  refine ⟨rfl, fun v => rfl, rfl, rfl, rfl, fun v => ⟨rfl, rfl, rfl⟩, fun s =>
    ⟨?cmdx, ?arg1, ?arg2, ?arg3, fun v => ⟨?storeCmdx, ?storeArg1, ?storeArg2, ?storeArg3⟩⟩⟩
  case cmdx => exact hostRead_byte .cmdx s rfl rfl
  case arg1 => exact hostRead_byte .arg1 s rfl rfl
  case arg2 => exact hostRead_byte .arg2 s rfl rfl
  case arg3 => exact hostRead_byte .arg3 s rfl rfl
  case storeCmdx => exact hostWrite_byte .cmdx v s (fun b => { s.regs with cmdx := b &&& 0x3F#8 }) fun _ => rfl
  case storeArg1 => exact hostWrite_byte .arg1 v s (fun b => { s.regs with arg1 := b }) fun _ => rfl
  case storeArg2 => exact hostWrite_byte .arg2 v s (fun b => { s.regs with arg2 := b }) fun _ => rfl
  case storeArg3 => exact hostWrite_byte .arg3 v s (fun b => { s.regs with arg3 := b }) fun _ => rfl

/-- Settles O21, by the three outcomes of the trigger. -/
theorem argumentFourTriggersTheCommand : Obligations.ArgumentFourTriggersTheCommand := by
  refine ⟨rfl, fun v => rfl, fun s => ⟨hostRead_byte .arg4 s rfl rfl, fun v => ⟨fun h => ?_, fun h hindex => ?_,
    fun h hindex => ?_⟩⟩⟩
  · exact hostWrite_refused ((writeReg_arg4 v s).trans (writeArg4_in_flight v h))
  · exact hostWrite_refused ((writeReg_arg4 v s).trans (writeArg4_unknown v h hindex))
  · exact hostWrite_ok ((writeReg_arg4 v s).trans (writeArg4_triggers v h hindex))

/-- `VR.FDEPTH` selects the depth (10_state.md rule R47). -/
theorem fifoDepth_of_code (c : Cfg) :
    (c.vrValue.extractLsb' 0 2 = 0#2 → fifoDepth c = c.fifoDepth0.toNat)
    ∧ (c.vrValue.extractLsb' 0 2 = 1#2 → fifoDepth c = c.fifoDepth1.toNat)
    ∧ (c.vrValue.extractLsb' 0 2 = 2#2 → fifoDepth c = c.fifoDepth2.toNat)
    ∧ (c.vrValue.extractLsb' 0 2 = 3#2 → fifoDepth c = c.fifoDepth3.toNat) := by
  refine ⟨fun h => ?_, fun h => ?_, fun h => ?_, fun h => ?_⟩ <;> rw [fifoDepth, h] <;> rfl

/-- Settles O23: a port access by what its FIFO holds. -/
theorem fifoPortsPushAndPop : Obligations.FifoPortsPushAndPop := by
  refine ⟨rfl, fun v => rfl, rfl, fun v => rfl, fifoDepth_of_code, fun s =>
    ⟨?readWdr, fun v => ⟨fun h => ?push, fun h => ?full⟩, fun w rest h => ?pop, fun h => ?empty, fun v => ?writeRdr⟩⟩
  case readWdr => exact hostRead_word .wdr s rfl rfl
  case push => exact hostWrite_ok (r := .wdr) (congrArg Except.ok (writeWdr_pushes v h))
  case full => exact hostWrite_ok (r := .wdr) (congrArg Except.ok (writeWdr_full v h))
  case pop => exact hostRead_word .rdr s rfl (readRdr_cons h)
  case empty => exact hostRead_word .rdr s rfl (readRdr_nil h)
  case writeRdr => exact hostWrite_ignored .rdr s (fun _ => rfl) v

/-- Settles O24: a mask stores the implemented bits, and the line follows it. -/
theorem maskRegistersStoreImplementedBits : Obligations.MaskRegistersStoreImplementedBits := by
  refine ⟨rfl, rfl, rfl, fun v => ⟨rfl, rfl, rfl⟩, fun s => ?_⟩
  have imr (v : Byte) :
      exec (.w8Imr v) s = .next { s with regs := { s.regs with imr := v &&& 0x0F#8 }, result := none } :=
    hostWrite_byte .imr v s (fun b => { s.regs with imr := b &&& commandTierBits }) fun _ => rfl
  have sbimr (v : Byte) :
      exec (.w8Sbimr v) s = .next { s with regs := { s.regs with sbimr := v &&& 0x1F#8 }, result := none } :=
    hostWrite_byte .sbimr v s (fun b => { s.regs with sbimr := b &&& blockTierBits }) fun _ => rfl
  have mbimr (v : Byte) :
      exec (.w8Mbimr v) s = .next { s with regs := { s.regs with mbimr := v &&& 0x1F#8 }, result := none } :=
    hostWrite_byte .mbimr v s (fun b => { s.regs with mbimr := b &&& blockTierBits }) fun _ => rfl
  refine ⟨hostRead_byte .imr s rfl rfl, hostRead_byte .sbimr s rfl rfl, hostRead_byte .mbimr s rfl rfl,
    fun v => ⟨imr v, sbimr v, mbimr v⟩, fun v t hset h => ?_, fun v t hset h => ?_, fun v t hset h => ?_,
    fun h1 h2 h3 => ?_⟩
  · cases (imr v).symm.trans h
    exact (irq_eq_true_iff _).2 (.inl hset)
  · cases (sbimr v).symm.trans h
    exact (irq_eq_true_iff _).2 (.inr (.inl hset))
  · cases (mbimr v).symm.trans h
    exact (irq_eq_true_iff _).2 (.inr (.inr hset))
  · rw [← Bool.not_eq_true, irq_eq_true_iff, h1, h2, h3]
    simp

/-- Settles O25: only the clear registers write a latch, and each clears its own tier. -/
theorem latchesReadAndClear : Obligations.LatchesReadAndClear := by
  refine ⟨rfl, rfl, rfl, rfl, rfl, rfl, fun v => ⟨rfl, rfl, rfl, rfl, rfl, rfl⟩, fun s =>
    ⟨?isr, ?sbisr, ?mbisr, ?icr, ?sbicr, ?mbicr, fun v => ⟨?keepIsr, ?keepSbisr, ?keepMbisr, ?clearIsr, ?clearSbisr,
      ?clearMbisr⟩⟩⟩
  case isr => exact hostRead_byte .isr s rfl rfl
  case sbisr => exact hostRead_byte .sbisr s rfl rfl
  case mbisr => exact hostRead_byte .mbisr s rfl rfl
  case icr => exact hostRead_byte .icr s (b := 0#8) rfl rfl
  case sbicr => exact hostRead_byte .sbicr s (b := 0#8) rfl rfl
  case mbicr => exact hostRead_byte .mbicr s (b := 0#8) rfl rfl
  case keepIsr => exact hostWrite_ignored .isr s (fun _ => rfl) (v.setWidth 32)
  case keepSbisr => exact hostWrite_ignored .sbisr s (fun _ => rfl) (v.setWidth 32)
  case keepMbisr => exact hostWrite_ignored .mbisr s (fun _ => rfl) (v.setWidth 32)
  case clearIsr =>
    exact hostWrite_byte .icr v s (fun b => { s.regs with isr := s.regs.isr &&& ~~~b }) fun _ => rfl
  case clearSbisr =>
    exact hostWrite_byte .sbicr v s (fun b => { s.regs with sbisr := s.regs.sbisr &&& ~~~b }) fun _ => rfl
  case clearMbisr =>
    exact hostWrite_byte .mbicr v s (fun b => { s.regs with mbisr := s.regs.mbisr &&& ~~~b }) fun _ => rfl

/-- Settles O26, by bit 0 of the byte written. -/
theorem controlRegisterResetsAndEnables : Obligations.ControlRegisterResetsAndEnables := by
  refine ⟨rfl, fun v => rfl, fun s => ⟨hostRead_byte .ctrl s rfl (readReg_ctrl s), fun v => ⟨fun h => ?_, fun h => ?_⟩⟩⟩
  · exact hostWrite_ok ((writeReg_ctrl v s).trans (congrArg Except.ok (writeCtrl_resets h s)))
  · exact hostWrite_ok ((writeReg_ctrl v s).trans (congrArg Except.ok (writeCtrl_enables h s)))

/-- Settles O27: two views, two registers that store, one constant. -/
theorem viewsDividerTimeoutAndBlockLength : Obligations.ViewsDividerTimeoutAndBlockLength := by
  refine ⟨rfl, rfl, fun v => ⟨rfl, rfl⟩, rfl, rfl, rfl, fun v => rfl, fun v => rfl, fun v => rfl, fun s =>
    ⟨?sbcsr, ?mbcsr, fun v => ⟨?keepSbcsr, ?keepMbcsr⟩, ?clkr, ?datato, ?blr, fun v => ?storeClkr, fun v => ?storeDatato,
      fun v => ?keepBlr⟩⟩
  case sbcsr => exact hostRead_byte .sbcsr s rfl (readReg_sbcsr s)
  case mbcsr => exact hostRead_byte .mbcsr s rfl (readReg_mbcsr s)
  case keepSbcsr => exact hostWrite_ignored .sbcsr s (fun _ => rfl) (v.setWidth 32)
  case keepMbcsr => exact hostWrite_ignored .mbcsr s (fun _ => rfl) (v.setWidth 32)
  case keepBlr => exact hostWrite_ignored .blr s (fun _ => rfl) (v.setWidth 32)
  case clkr => exact hostRead_byte .clkr s rfl rfl
  case datato => exact hostRead_word .datato s rfl rfl
  case blr => exact hostRead_half .blr s rfl rfl
  case storeClkr => exact hostWrite_byte .clkr v s (fun b => { s.regs with clkr := b }) fun _ => rfl
  case storeDatato => exact hostWrite_ok (r := .datato) (s := s) (w := v) rfl

end Sys2Proof.Machine
end

section
/-! What the version and the response registers keep along every step (40_register_model.md rules R111, R115, R129, R137):
the build constants always, the response registers but for a response and a software reset. -/

namespace Sys2Proof.Machine

/-! ### The version registers -/

theorem exec_keepsConfig {i : Instr} {s t : State} (h : exec i s = .next t) : KeepsConfig s t :=
  (exec_result h).keepsConfig

theorem step_keepsConfig {s t : State} (h : step s = .next t) : KeepsConfig s t := by
  obtain ⟨rest, -, turn⟩ := step_cases h
  exact turn.keepsConfig

/-- The reads of the three constants (rule R111). -/
theorem version_reads (s : State) :
    exec .r8Vr s = .next { s with result := some (.read8 s.cfg.vrValue) }
    ∧ exec .r8Mjvr s = .next { s with result := some (.read8 s.cfg.mjvrValue) }
    ∧ exec .r8Mivr s = .next { s with result := some (.read8 s.cfg.mivrValue) } :=
  ⟨hostRead_byte .vr s rfl rfl, hostRead_byte .mjvr s rfl rfl, hostRead_byte .mivr s rfl rfl⟩

/-- Settles O19: the constants are the configuration's, which no step and no request changes. -/
theorem versionRegistersAreConstant : Obligations.VersionRegistersAreConstant := by
  refine ⟨rfl, rfl, rfl, fun v => ⟨rfl, rfl, rfl⟩, fun s => ?_⟩
  obtain ⟨hvr, hmjvr, hmivr⟩ := version_reads s
  refine ⟨hvr, hmjvr, hmivr, fun v => ⟨?_, ?_, ?_⟩, fun t h => ?_⟩
  · exact hostWrite_ignored .vr s (fun _ => rfl) (v.setWidth 32)
  · exact hostWrite_ignored .mjvr s (fun _ => rfl) (v.setWidth 32)
  · exact hostWrite_ignored .mivr s (fun _ => rfl) (v.setWidth 32)
  · have kept : t.cfg = s.cfg := (h.elim step_keepsConfig exec_keepsConfig).cfg_eq
    rw [← kept]
    exact version_reads t

/-! ### The response registers: register accesses -/

theorem readReg_rr_eq (r : Reg) (s : State) : (readReg r s).2.regs.rr = s.regs.rr := by
  cases r
  case rdr =>
    simp only [readReg, readRdr]
    split <;> rfl
  all_goals rfl

/-- A write leaves the response registers alone, unless it is the software reset. -/
theorem writeReg_rr_eq {r : Reg} {w : Word} {s t : State} (h : writeReg r w s = .ok t) :
    t.regs.rr = s.regs.rr ∨ r = .ctrl ∧ w.getLsbD 0 = true ∧ t.regs = Regs.reset := by
  cases r <;> simp only [writeReg] at h
  case arg4 =>
    unfold writeArg4 at h
    split at h
    · cases h
    · split at h <;> cases h
      exact .inl rfl
  all_goals cases h
  case wdr =>
    unfold writeWdr
    split <;> exact .inl rfl
  case ctrl =>
    unfold writeCtrl
    split
    next hbit => exact .inr ⟨rfl, by simpa using hbit, rfl⟩
    · exact .inl rfl
  all_goals exact .inl rfl

/-! ### The response registers: steps of an agent -/

/-- The context's next step is a software reset: a write of `CTRL` with bit 0 set (rule R137). -/
def Ctx.Resets (c : Ctx) : Prop := ∃ v rest, c.todo = .write .ctrl v :: rest ∧ v.getLsbD 0 = true

theorem microStep_rr_eq {s t : State} {m : Micro} {l l' : Locals} {more : List Micro}
    (h : microStep m l s = .next more l' t) :
    t.regs.rr = s.regs.rr ∨ t.regs = Regs.reset ∧ ∃ v, m = .write .ctrl v ∧ v.getLsbD 0 = true := by
  cases m <;> simp only [microStep, readByte] at h
  case write r v =>
    split at h
    next hw =>
      cases h
      obtain kept | ⟨rfl, hbit, hreset⟩ := writeReg_rr_eq hw
      · exact .inl kept
      · exact .inr ⟨hreset, v, rfl, hbit⟩
    · cases h
  case fill buf i =>
    split at h
    next hw =>
      cases h
      exact .inl ((writeReg_rr_eq hw).resolve_right fun ⟨hr, _⟩ => nomatch hr)
    · cases h
  case drain dest i => cases dest <;> cases h <;> exact .inl (readReg_rr_eq .rdr s)
  all_goals cases h; exact .inl rfl

theorem ctxStep_rr_eq {c : Ctx} {s t : State} (h : (ctxStep c s).state? = some t) :
    t.regs.rr = s.regs.rr ∨ t.regs = Regs.reset ∧ c.Resets := by
  obtain rfl | ⟨m, rest, more, l, htodo, hm⟩ := ctxStep_cases h
  · exact .inl rfl
  · exact (microStep_rr_eq hm).imp_right fun ⟨hreset, v, hwrite, hbit⟩ => ⟨hreset, v, rest, hwrite ▸ htodo, hbit⟩

theorem engineStep_rr_eq {s t : State} (h : engineStep s = .next t) :
    t.regs.rr = s.regs.rr ∨ t.regs = Regs.reset ∧ ∃ c, s.engine = some c ∧ c.Resets := by
  obtain ⟨-, rfl⟩ | ⟨c, u, hc, ⟨c', hstep, rfl⟩ | ⟨v, hstep, rfl⟩⟩ := engineStep_cases h
  · exact .inl rfl
  all_goals
    exact (ctxStep_rr_eq (congrArg CtxResult.state? hstep)).imp_right fun ⟨hreset, hnext⟩ => ⟨hreset, c, hc, hnext⟩

theorem dispatcherStep_rr_eq {s t : State} (h : dispatcherStep s = .next t) :
    t.regs.rr = s.regs.rr ∨ t.regs = Regs.reset ∧ ∃ c, s.disp = some c ∧ c.Resets := by
  obtain ⟨-, rfl⟩ | ⟨c, u, hc, ⟨c', hstep, rfl⟩ | ⟨v, hstep, rfl⟩⟩ := dispatcherStep_cases h
  · exact .inl rfl
  all_goals
    exact (ctxStep_rr_eq (congrArg CtxResult.state? hstep)).imp_right fun ⟨hreset, hnext⟩ => ⟨hreset, c, hc, hnext⟩

/-! ### The response registers: requests -/

theorem hostRead_rr_eq {r : Reg} {s t : State} (h : hostRead r s = .next t) : t.regs.rr = s.regs.rr := by
  simp only [hostRead] at h
  split at h <;> cases h <;> exact readReg_rr_eq r s

theorem hostWrite_rr_eq {r : Reg} {w : Word} {s t : State} (h : hostWrite r w s = .next t) :
    t.regs.rr = s.regs.rr ∨ r = .ctrl ∧ w.getLsbD 0 = true ∧ t.regs = Regs.reset := by
  unfold hostWrite at h
  split at h
  next u hw =>
    cases h
    exact writeReg_rr_eq (t := u) hw
  · cases h

theorem hostWrite_rr_eq_of_ne {r : Reg} {w : Word} {s t : State} (hr : r ≠ .ctrl) (h : hostWrite r w s = .next t) :
    t.regs.rr = s.regs.rr :=
  (hostWrite_rr_eq h).resolve_right fun ⟨hctrl, _⟩ => hr hctrl

/-- A delivery entered, or the fault in its place, accesses no register. -/
theorem enterInterrupt_regs {iv : Bool} {s t : State} (h : enterInterrupt iv s = .next t) : t.regs = s.regs := by
  rw [enterInterrupt_frame h]

/-- The tests of a blocking transfer access no register. -/
theorem blockingTransfer_regs {iv : Bool} {buf : Word} {s t : State} {todo : State → List Micro} {p : Point}
    (h : blockingTransfer iv buf s (fun u => startOperation (todo u) p u) = .next t) : t.regs = s.regs := by
  unfold blockingTransfer at h
  split at h
  · cases h; rfl
  · split at h
    · cases h
    · split at h
      · cases h
      · split at h <;> cases h
        rfl

/-- Nor do those of a start operation. -/
theorem startNb_regs {iv : Bool} {x : Chain} {sector : Word} {n : BitVec 16} {t0 lim : Word} {s t : State}
    (h : startNb iv x sector n t0 lim s = .next t) : t.regs = s.regs := by
  unfold startNb at h
  split at h
  · cases h; rfl
  · split at h
    · cases h; rfl
    · split at h
      · cases h; rfl
      · split at h
        · cases h
        · split at h <;> cases h
          rfl

/-- The one instruction that changes the response registers is a write of `CTRL` with bit 0 set (rule R137). -/
theorem exec_rr_eq {i : Instr} {s t : State} (h : exec i s = .next t) :
    t.regs.rr = s.regs.rr ∨ t.regs = Regs.reset ∧ ∃ v, i = .w8Ctrl v ∧ v.getLsbD 0 = true := by
  cases i with
  | w8Ctrl v =>
    exact (hostWrite_rr_eq (r := .ctrl) (w := v.setWidth 32) h).imp_right fun ⟨_, hbit, hreset⟩ =>
      ⟨hreset, v, rfl, by simpa using hbit⟩
  | initFifo iv =>
    simp only [exec, execInitFifo] at h
    split at h
    · cases h; exact .inl rfl
    · exact .inl ((hostWrite_rr_eq h).resolve_right fun ⟨_, hbit, _⟩ => absurd hbit (by decide))
  | sbw | sbr =>
    simp only [exec, execSbw, execSbr] at h
    exact .inl (congrArg Regs.rr (blockingTransfer_regs h))
  | sbwNb | sbrNb | mbw | mbr => exact .inl (congrArg Regs.rr (startNb_regs h))
  | isr => exact .inl (congrArg Regs.rr (enterInterrupt_regs h))
  | init =>
    simp only [exec, execInit] at h
    split at h
    · cases h; exact .inl rfl
    · split at h <;> cases h
      exact .inl rfl
  | status =>
    simp only [exec, execStatus] at h
    split at h
    · cases h; exact .inl rfl
    · split at h
      · cases h
      · split at h <;> cases h <;> exact .inl rfl
  | wfifoAddr | rfifoAddr =>
    simp only [exec, execWfifoAddr, execRfifoAddr] at h
    split at h <;> cases h <;> exact .inl rfl
  | sendCommand | issueCommand =>
    simp only [exec, execSendCommand, execIssueCommand] at h
    split at h <;> cases h
    exact .inl rfl
  | r32Rdr => exact .inl (hostRead_rr_eq (r := .rdr) h)
  | w32Wdr v => exact .inl (hostWrite_rr_eq_of_ne (r := .wdr) (w := v) (by decide) h)
  | w8Arg4 v => exact .inl (hostWrite_rr_eq_of_ne (r := .arg4) (w := v.setWidth 32) (by decide) h)
  -- every other instruction answers at once or plans steps: its outcome computes to the same response registers
  | _ =>
    cases h
    exact .inl rfl

/-! ### The response registers: a step of the machine -/

/-- An event loads the response registers at a response only (rule R129). -/
theorem controllerStep_rr_eq {e : Event} {s t : State} (h : controllerStep e s = some t) :
    t.regs.rr = s.regs.rr ∨ ∃ p n, e = .respOk p n := by
  cases e <;> simp only [controllerStep] at h
  case respOk p n => exact .inr ⟨p, n, rfl⟩
  case wordOut =>
    unfold wordOut at h
    split at h
    · cases h
    · obtain ⟨-, ⟨⟩⟩ := Option.ite_none_right_eq_some.1 h
      exact .inl rfl
  case dataDone | fifoTimeout =>
    obtain ⟨-, ⟨⟩⟩ := Option.ite_none_right_eq_some.1 h
    cases s.hid.dataTier <;> exact .inl rfl
  case cmdSent | respFail | wordIn =>
    obtain ⟨-, ⟨⟩⟩ := Option.ite_none_right_eq_some.1 h
    exact .inl rfl

theorem serve_rr_eq {s t : State} {src : Requester} {bytes : List Byte} (h : serve src bytes s = .next t) :
    t.regs.rr = s.regs.rr ∨ t.regs = Regs.reset ∧ ∃ v, decode s.cfg bytes = .instr (.w8Ctrl v) ∧ v.getLsbD 0 = true := by
  unfold serve at h
  split at h
  · cases h
  · cases h; exact .inl rfl
  next i hi =>
    split at h
    · cases h
    · exact (exec_rr_eq h).imp_right fun ⟨hreset, v, hv, hbit⟩ => ⟨hreset, v, hv ▸ hi, hbit⟩

/-- What is in progress is about to reset the controller half. -/
def State.AgentResets (s : State) : Prop := ∃ c, (s.engine = some c ∨ s.disp = some c) ∧ c.Resets

/-- The next turn is a packet that writes `CTRL` with bit 0 set. -/
def State.RequestResets (s : State) : Prop :=
  ∃ src bytes v rest, s.agenda = .request src bytes :: rest ∧ decode s.cfg bytes = .instr (.w8Ctrl v) ∧ v.getLsbD 0 = true

theorem background_rr_eq {s t : State} (h : background s = .next t) :
    t.regs.rr = s.regs.rr ∨ t.regs = Regs.reset ∧ s.AgentResets := by
  by_cases hd : s.disp = none
  · rw [background_of_no_delivery hd] at h
    exact (engineStep_rr_eq h).imp_right fun ⟨hreset, c, hc, hnext⟩ => ⟨hreset, c, .inl hc, hnext⟩
  · rw [background_of_delivery hd] at h
    exact (dispatcherStep_rr_eq h).imp_right fun ⟨hreset, c, hc, hnext⟩ => ⟨hreset, c, .inr hc, hnext⟩

/-- A turn keeps the response registers, is a response, or resets the controller half. -/
theorem takeTurn_rr_eq {turn : Turn} {rest : List Turn} {s t : State} (ha : s.agenda = turn :: rest)
    (h : takeTurn turn rest s = .next t) :
    t.regs.rr = s.regs.rr ∨ (∃ p n, turn = .event (.respOk p n))
      ∨ t.regs = Regs.reset ∧ (s.RequestResets ∨ s.AgentResets) := by
  have inProgress : background s = .next t → t.regs.rr = s.regs.rr ∨ (∃ p n, turn = .event (.respOk p n))
      ∨ t.regs = Regs.reset ∧ (s.RequestResets ∨ s.AgentResets) := fun hb =>
    (background_rr_eq hb).imp_right fun ⟨hreset, hagent⟩ => .inr ⟨hreset, .inr hagent⟩
  cases turn <;> simp only [takeTurn] at h
  case request src bytes =>
    split at h
    · exact inProgress h
    · exact (serve_rr_eq h).imp_right fun ⟨hreset, v, hv, hbit⟩ => .inr ⟨hreset, .inl ⟨src, bytes, v, rest, ha, hv, hbit⟩⟩
  case readR2 =>
    split at h
    · exact inProgress h
    · cases h; exact .inl rfl
  case engine =>
    split at h
    · cases h; exact .inl rfl
    · exact (engineStep_rr_eq h).imp_right fun ⟨hreset, c, hc, hnext⟩ => .inr ⟨hreset, .inr ⟨c, .inl hc, hnext⟩⟩
  case dispatcher =>
    exact (dispatcherStep_rr_eq h).imp_right fun ⟨hreset, c, hc, hnext⟩ => .inr ⟨hreset, .inr ⟨c, .inr hc, hnext⟩⟩
  case deliver iv =>
    split at h
    · exact .inl (congrArg Regs.rr (enterInterrupt_regs (s := s.setAgenda rest) h))
    · cases h; exact .inl rfl
  case hostIsr iv =>
    split at h
    · exact inProgress h
    · exact .inl (congrArg Regs.rr (enterInterrupt_regs (iv := iv) (s := s.setAgenda rest) h))
  case event e =>
    split at h
    next hc =>
      cases h
      exact (controllerStep_rr_eq hc).imp_right fun ⟨p, n, he⟩ => .inl ⟨p, n, congrArg Turn.event he⟩
    · cases h; exact .inl rfl

theorem step_rr_eq {s t : State} (h : step s = .next t) :
    t.regs.rr = s.regs.rr ∨ (∃ p n rest, s.agenda = .event (.respOk p n) :: rest)
      ∨ t.regs = Regs.reset ∧ (s.RequestResets ∨ s.AgentResets) := by
  simp only [step, takeStep] at h
  split at h
  · cases h
  split at h
  · exact (background_rr_eq h).imp_right fun ⟨hreset, hagent⟩ => .inr ⟨hreset, .inr hagent⟩
  next turn rest ha =>
    obtain kept | ⟨p, n, rfl⟩ | hreset := takeTurn_rr_eq ha h
    · exact .inl kept
    · exact .inr (.inl ⟨p, n, rest, ha⟩)
    · exact .inr (.inr hreset)

/-- Settles O22: the transactions by the two shared rules, the steps by `step_rr_eq`. -/
theorem responseRegistersAreReadOnly : Obligations.ResponseRegistersAreReadOnly := by
  refine ⟨fun v => ?headers, fun s => ⟨?reads, fun v => ?writes, fun t h => ?steps⟩⟩
  case headers => and_intros <;> rfl
  case reads =>
    exact ⟨hostRead_byte (.rr 0) s rfl rfl, hostRead_byte (.rr 1) s rfl rfl, hostRead_byte (.rr 2) s rfl rfl,
      hostRead_byte (.rr 3) s rfl rfl, hostRead_byte (.rr 4) s rfl rfl, hostRead_byte (.rr 5) s rfl rfl,
      hostRead_byte (.rr 6) s rfl rfl, hostRead_byte (.rr 7) s rfl rfl, hostRead_byte (.rr 8) s rfl rfl,
      hostRead_byte (.rr 9) s rfl rfl, hostRead_byte (.rr 10) s rfl rfl, hostRead_byte (.rr 11) s rfl rfl,
      hostRead_byte (.rr 12) s rfl rfl, hostRead_byte (.rr 13) s rfl rfl, hostRead_byte (.rr 14) s rfl rfl,
      hostRead_byte (.rr 15) s rfl rfl, hostRead_byte (.rr 16) s rfl rfl⟩
  case writes =>
    have ignored (n : Fin 17) : hostWrite (.rr n) (v.setWidth 32) s = .next (s.setResult none) :=
      hostWrite_ignored (.rr n) s (fun _ => rfl) _
    exact ⟨ignored 0, ignored 1, ignored 2, ignored 3, ignored 4, ignored 5, ignored 6, ignored 7, ignored 8, ignored 9,
      ignored 10, ignored 11, ignored 12, ignored 13, ignored 14, ignored 15, ignored 16⟩
  case steps =>
    obtain kept | hresponse | ⟨hreset, hrequest | ⟨c, hc, v, rest, htodo, hbit⟩⟩ := step_rr_eq h
    · exact .inl kept
    · exact .inr (.inl hresponse)
    · exact .inr (.inr ⟨hreset, .inl hrequest⟩)
    · exact .inr (.inr ⟨hreset, .inr ⟨c, v, rest, hc, htodo, hbit⟩⟩)

end Sys2Proof.Machine
end

section
/-! Accesses that reach no register (10_state.md rule R44; 20_memory.md rules R61, R63; 40_register_model.md rule R126):
which offsets are reserved in the default table, and how the decoder answers the others. -/

namespace Sys2Proof

/-! ### What an access reaches -/

theorem regAt_eq_none {t : OffsetTable} {sz : Size} {off : BitVec 7} (h : ∀ r : Reg, r.size = sz → r.offset t ≠ off) :
    regAt t sz off = none := by
  refine List.find?_eq_none.2 fun r _ hr => ?_
  rw [Bool.and_eq_true, beq_iff_eq, beq_iff_eq] at hr
  exact h r hr.1 hr.2

/-- An offset where a byte of a register stands is not reserved. -/
theorem not_reserved_of_covers {t : OffsetTable} {off : BitVec 7} (r : Reg) (h : r.covers t off.toNat = true) :
    isReservedOffset t off = false := by
  have some_covers : allRegs.any (fun q => q.covers t off.toNat) = true := List.any_eq_true.2 ⟨r, mem_allRegs r, h⟩
  rw [isReservedOffset, some_covers, Bool.not_true, Bool.and_false]

theorem size_eq_half {r : Reg} (h : r.size = .half) : r = .blr := by
  cases r <;> first | rfl | cases h

theorem size_eq_word {r : Reg} (h : r.size = .word) : r = .wdr ∨ r = .rdr ∨ r = .datato := by
  cases r
  case wdr => exact .inl rfl
  case rdr => exact .inr (.inl rfl)
  case datato => exact .inr (.inr rfl)
  all_goals cases h

/-! ### The default offsets (rule R51) -/

/-- The offsets rule R44 lists. -/
def reservedOffsets : List Nat :=
  [0x1A, 0x1B, 0x27, 0x2B, 0x2F, 0x31, 0x32, 0x33, 0x35, 0x36, 0x37, 0x39, 0x3A, 0x3B, 0x3C, 0x3D, 0x3E, 0x3F,
    0x41, 0x42, 0x43, 0x44, 0x45, 0x46, 0x47, 0x4C, 0x4D, 0x4E, 0x4F]

/-- No register covers a reserved offset, and each is inside the window. -/
theorem reserved_of_mem {off : BitVec 7} (h : off.toNat ∈ reservedOffsets) :
    isReservedOffset Config.offsetTable off = true ∧ off.toNat ≤ 0x51 := by
  have all : ∀ n ∈ reservedOffsets, n ≤ 0x51 ∧ ∀ r ∈ allRegs, r.covers Config.offsetTable n = false := by decide
  obtain ⟨inside, apart⟩ := all _ h
  refine ⟨?_, inside⟩
  rw [isReservedOffset, decide_eq_true inside, Bool.true_and, Bool.not_eq_true', List.any_eq_false]
  exact fun r hr => Bool.eq_false_iff.1 (apart r hr)

/-- A byte inside `WDR`, `RDR`, `DATATO` or `BLR`, or outside the window: no one-byte register stands there. -/
theorem regAt_byte_eq_none {off : BitVec 7}
    (h : (0x1C ≤ off.toNat ∧ off.toNat ≤ 0x23) ∨ (0x48 ≤ off.toNat ∧ off.toNat ≤ 0x4B) ∨ 0x50 ≤ off.toNat) :
    regAt Config.offsetTable .byte off = none := by
  have elsewhere : ∀ r ∈ allRegs, r.size = .byte → ¬ ((0x1C ≤ (r.offset Config.offsetTable).toNat
      ∧ (r.offset Config.offsetTable).toNat ≤ 0x23) ∨ (0x48 ≤ (r.offset Config.offsetTable).toNat
      ∧ (r.offset Config.offsetTable).toNat ≤ 0x4B) ∨ 0x50 ≤ (r.offset Config.offsetTable).toNat) := by decide
  refine regAt_eq_none fun r hsize hoff => elsewhere r (mem_allRegs r) hsize ?_
  rw [hoff]
  exact h

/-- Such a byte inside the window belongs to one of the four wider registers. -/
theorem not_reserved_of_wide {off : BitVec 7} (inside : off.toNat ≤ 0x51)
    (h : (0x1C ≤ off.toNat ∧ off.toNat ≤ 0x23) ∨ (0x48 ≤ off.toNat ∧ off.toNat ≤ 0x4B) ∨ 0x50 ≤ off.toNat) :
    isReservedOffset Config.offsetTable off = false := by
  have covers (r : Reg) (lo : (r.offset Config.offsetTable).toNat ≤ off.toNat)
      (hi : off.toNat < (r.offset Config.offsetTable).toNat + r.size.bytes) :
      isReservedOffset Config.offsetTable off = false :=
    not_reserved_of_covers r (Bool.and_eq_true_iff.2 ⟨decide_eq_true lo, decide_eq_true hi⟩)
  obtain ⟨lo, hi⟩ | ⟨lo, hi⟩ | lo := h
  · by_cases hport : off.toNat < 0x20
    · exact covers .wdr lo hport
    · exact covers .rdr (Nat.le_of_not_lt hport) (Nat.lt_succ_of_le hi)
  · exact covers .datato lo (Nat.lt_succ_of_le hi)
  · exact covers .blr lo (Nat.lt_succ_of_le inside)

theorem regAt_half_eq_none {off : BitVec 7} (h : off.toNat ≠ 0x50) : regAt Config.offsetTable .half off = none :=
  regAt_eq_none fun r hsize hoff => by
    subst hoff
    rw [size_eq_half hsize] at h
    exact h rfl

theorem regAt_word_eq_none {off : BitVec 7} (h1 : off.toNat ≠ 0x1C) (h2 : off.toNat ≠ 0x20) (h3 : off.toNat ≠ 0x48) :
    regAt Config.offsetTable .word off = none :=
  regAt_eq_none fun r hsize hoff => by
    subst hoff
    obtain rfl | rfl | rfl := size_eq_word hsize
    · exact h1 rfl
    · exact h2 rfl
    · exact h3 rfl

/-! ### The decoder -/

/-- The header of an access, register or not (30_encoding.md rule R85). -/
abbrev accessHeader (write : Bool) (sz : Size) (off : BitVec 7) : BitVec 16 :=
  BitVec.ofBool write ++ sz.code ++ 0#6 ++ off

/-- A one-byte access of a reserved offset (rule R126; log entry 15). -/
theorem decodeReg_reserved {t : OffsetTable} {off : BitVec 7} (h : isReservedOffset t off = true)
    (inside : off.toNat ≤ 0x51) (write : Bool) {data : Word}
    (hdata : if write then data.extractLsb' 8 24 = 0#24 else data = 0#32) :
    decodeReg t (accessHeader write .byte off) data = .reserved write off := by
  obtain ⟨hw, hsz, hz, hoff⟩ := fields_of_header (BitVec.ofBool write) Size.byte.code 0#6 off
  have inWindow : ¬ 0x51 < off.toNat := Nat.not_lt.2 inside
  simp only [decodeReg, accessHeader, hw, hsz, hz, hoff, sizeOfCode_eq_some.2 rfl, h, inWindow]
  cases write with
  | false =>
    obtain rfl : data = 0#32 := hdata
    rfl
  | true =>
    have fits : Size.byte.fits data = true := beq_iff_eq.2 hdata
    simp [fits]

/-- An access that reaches no register and no reserved offset. -/
theorem decodeReg_reaches_nothing {t : OffsetTable} {sz : Size} {off : BitVec 7}
    (hreserved : off.toNat ≤ 0x51 → sz = .byte → isReservedOffset t off = false) (hreg : regAt t sz off = none)
    (write : Bool) (data : Word) :
    decodeReg t (accessHeader write sz off) data = .rejected .badTransaction := by
  obtain ⟨hw, hsz, hz, hoff⟩ := fields_of_header (BitVec.ofBool write) sz.code 0#6 off
  simp only [decodeReg, accessHeader, hw, hsz, hz, hoff, sizeOfCode_eq_some.2 rfl, hreg]
  split
  · rfl
  next hin =>
  have inside : off.toNat ≤ 0x51 := by simpa using hin
  have plain : (sz == .byte && isReservedOffset t off) = false := by
    rw [Bool.and_eq_false_imp, beq_iff_eq]
    exact hreserved inside
  simp only [plain, Bool.false_eq_true, if_false]

end Sys2Proof

namespace Sys2Proof.Machine

/-! ### The packet served -/

/-- A register transaction requested while nothing is in progress is answered as the decoder reads it. -/
theorem step_access_reserved {s : State} {src : Requester} {rest : List Turn} {header : BitVec 16} {data : Word}
    {write : Bool} {off : BitVec 7} (hf : s.faulted = none) (he : s.engine = none) (hd : s.disp = none)
    (ha : s.agenda = .request src (bytesOfHalf s.cfg.littleEndian header ++ bytesOfWord s.cfg.littleEndian data) :: rest)
    (h : decodeReg s.cfg.off header data = .reserved write off) :
    step s = .next ((s.setAgenda rest).setResult (if write then none else some (.read8 0))) := by
  rw [step_request_served hf he hd ha, serve, State.setAgenda_cfg, decode_reg, h]
  rfl

theorem step_access_rejected {s : State} {src : Requester} {rest : List Turn} {header : BitVec 16} {data : Word}
    {e : DecodeError} (hf : s.faulted = none) (he : s.engine = none) (hd : s.disp = none)
    (ha : s.agenda = .request src (bytesOfHalf s.cfg.littleEndian header ++ bytesOfWord s.cfg.littleEndian data) :: rest)
    (h : decodeReg s.cfg.off header data = .rejected e) : step s = .refused (refusalOf e) := by
  rw [step_request_served hf he hd ha, serve, State.setAgenda_cfg, decode_reg, h]

/-- Settles O28, by what the access reaches in the default table. -/
theorem reservedOffsetsReadZero : Obligations.ReservedOffsetsReadZero := by
  intro s src rest write size off data hf he hd hoff ha
  have refused (hreserved : off.toNat ≤ 0x51 → size = .byte → isReservedOffset Config.offsetTable off = false)
      (hreg : regAt Config.offsetTable size off = none) : step s = .refused .badTransaction := by
    refine step_access_rejected (e := .badTransaction) hf he hd ha ?_
    rw [hoff]
    exact decodeReg_reaches_nothing hreserved hreg write data
  refine ⟨?_, ?_, ?_, ?_⟩
  · rintro rfl hmem
    obtain ⟨hreserved, inside⟩ := reserved_of_mem hmem
    have answered (hdata : if write then data.extractLsb' 8 24 = 0#24 else data = 0#32) :=
      step_access_reserved hf he hd ha (hoff ▸ decodeReg_reserved hreserved inside write hdata)
    refine ⟨?_, ?_⟩
    · rintro rfl hdata
      exact answered hdata
    · rintro rfl hdata
      exact answered hdata
  · rintro rfl hwide
    exact refused (fun inside _ => not_reserved_of_wide inside hwide) (regAt_byte_eq_none hwide)
  · rintro rfl hne
    exact refused (fun _ hsize => nomatch hsize) (regAt_half_eq_none hne)
  · rintro rfl h1 h2 h3
    exact refused (fun _ hsize => nomatch hsize) (regAt_word_eq_none h1 h2 h3)

end Sys2Proof.Machine
end

section
/-! CONTROLLER and the interrupt line (40_register_model.md rules R127 to R135; 30_encoding.md rule R88): what an event
can do, said once for all seven, then the contract of each event. -/

namespace Sys2Proof.Machine

/-! ### What an event does to the registers and the command latch (rule R135 item 4) -/

/-- From `s` to `t` no latch was cleared, no register but a response register or a latch was written, and the latched
command was kept. -/
structure EventWrites (s t : State) : Prop where
  isr_kept : NoNewBits 0xFF#8 t.regs.isr s.regs.isr
  sbisr_kept : NoNewBits 0xFF#8 t.regs.sbisr s.regs.sbisr
  mbisr_kept : NoNewBits 0xFF#8 t.regs.mbisr s.regs.mbisr
  regs_eq : t.regs = { s.regs with
    rr := t.regs.rr, isr := t.regs.isr, sbisr := t.regs.sbisr, mbisr := t.regs.mbisr }
  curIndex_eq : t.hid.curIndex = s.hid.curIndex
  curArg_eq : t.hid.curArg = s.hid.curArg

theorem EventWrites.trans {s t u : State} (h : EventWrites s t) (h' : EventWrites t u) : EventWrites s u where
  isr_kept := h'.isr_kept.trans h.isr_kept
  sbisr_kept := h'.sbisr_kept.trans h.sbisr_kept
  mbisr_kept := h'.mbisr_kept.trans h.mbisr_kept
  regs_eq := by
    rw [h'.regs_eq, h.regs_eq]
  curIndex_eq := h'.curIndex_eq.trans h.curIndex_eq
  curArg_eq := h'.curArg_eq.trans h.curArg_eq

/-- The hidden state but for the latched command. -/
theorem setHid_eventWrites {s : State} {h : Hidden} (h1 : h.curIndex = s.hid.curIndex) (h2 : h.curArg = s.hid.curArg) :
    EventWrites s (s.setHid h) :=
  ⟨.refl _ _, .refl _ _, .refl _ _, rfl, h1, h2⟩

theorem loadRr_eventWrites (s : State) (r : RespRegs) : EventWrites s (s.setRegs { s.regs with rr := r }) :=
  ⟨.refl _ _, .refl _ _, .refl _ _, rfl, rfl, rfl⟩

theorem setDeviceWords_eventWrites (s : State) (ws : List Word) : EventWrites s (s.setDeviceWords ws) :=
  ⟨.refl _ _, .refl _ _, .refl _ _, rfl, rfl, rfl⟩

/-- A raised latch clears none. -/
theorem noNewBits_of_or (mask b bits : Byte) : NoNewBits mask (b ||| bits) b :=
  noNewBits_iff.2 fun i h _ => by rw [BitVec.getLsbD_or, h, Bool.true_or]

theorem raiseCommand_eventWrites (bits : Byte) (s : State) : EventWrites s (raiseCommand bits s) :=
  ⟨noNewBits_of_or _ _ _, .refl _ _, .refl _ _, rfl, rfl, rfl⟩

theorem raiseBlock_eventWrites (tier : Tier) (bits : Byte) (s : State) : EventWrites s (raiseBlock tier bits s) := by
  cases tier
  · exact ⟨.refl _ _, noNewBits_of_or _ _ _, .refl _ _, rfl, rfl, rfl⟩
  · exact ⟨.refl _ _, .refl _ _, noNewBits_of_or _ _ _, rfl, rfl, rfl⟩

theorem startDataPhase_command (c : Cfg) (h : Hidden) (n : Nat) :
    (startDataPhase c h n).curIndex = h.curIndex ∧ (startDataPhase c h n).curArg = h.curArg := by
  rw [startDataPhase_frame]
  exact ⟨rfl, rfl⟩

/-- Every event is made of these writes. -/
theorem controllerStep_eventWrites {e : Event} {s t : State} (h : controllerStep e s = some t) : EventWrites s t := by
  cases e <;> simp only [controllerStep] at h
  case cmdSent | respFail =>
    obtain ⟨-, ⟨⟩⟩ := Option.ite_none_right_eq_some.1 h
    refine .trans ?_ (raiseCommand_eventWrites _ _)
    exact setHid_eventWrites rfl rfl
  case respOk p n =>
    obtain ⟨-, ⟨⟩⟩ := Option.ite_none_right_eq_some.1 h
    obtain ⟨hindex, harg⟩ := startDataPhase_command s.cfg { s.hid with cmdPhase := .none } n
    refine .trans ?_ (raiseCommand_eventWrites _ _)
    refine .trans ?_ (setHid_eventWrites hindex harg)
    exact loadRr_eventWrites s _
  case wordOut =>
    unfold wordOut at h
    split at h
    · cases h
    · obtain ⟨-, ⟨⟩⟩ := Option.ite_none_right_eq_some.1 h
      refine .trans ?_ (setDeviceWords_eventWrites _ _)
      exact setHid_eventWrites rfl rfl
  case wordIn =>
    obtain ⟨-, ⟨⟩⟩ := Option.ite_none_right_eq_some.1 h
    exact setHid_eventWrites rfl rfl
  case dataDone | fifoTimeout =>
    obtain ⟨-, ⟨⟩⟩ := Option.ite_none_right_eq_some.1 h
    refine .trans ?_ (raiseBlock_eventWrites _ _ _)
    exact setHid_eventWrites rfl rfl

/-- An event is taken if it is enabled and passed over if not (log entry 17). -/
theorem step_event {s : State} {e : Event} {rest : List Turn} (hf : s.faulted = none) (ha : s.agenda = .event e :: rest) :
    step s = .next ((controllerStep e (s.setAgenda rest)).getD (s.setAgenda rest)) := by
  simp only [step, takeStep, hf, ha, takeTurn]
  cases controllerStep e (s.setAgenda rest) <;> rfl

/-- Settles O16, from the writes an event is made of and the frame of all other fields. -/
theorem eventsClearNoLatchAndWriteNoMask : Obligations.EventsClearNoLatchAndWriteNoMask := by
  refine ⟨fun s e rest hf ha => step_event hf ha, fun s t e h => ?_⟩
  have writes := controllerStep_eventWrites h
  have kept {old new : Byte} (hbits : NoNewBits 0xFF#8 new old) : old &&& ~~~new = 0#8 :=
    calc old &&& ~~~new = (old &&& ~~~new) &&& 0xFF#8 := BitVec.and_allOnes.symm
      _ = 0#8 := hbits
  refine ⟨kept writes.isr_kept, kept writes.sbisr_kept, kept writes.mbisr_kept, writes.curIndex_eq, writes.curArg_eq, ?_⟩
  rw [← writes.regs_eq]
  exact controllerStep_frame h

/-! ### The interrupt line -/

/-- With `irq` 1 and no delivery in progress the platform enters the interrupt (rule R127). -/
theorem step_deliver_turn {s : State} {iv : Bool} {rest : List Turn} (hf : s.faulted = none) (hd : s.disp = none)
    (ha : s.agenda = .deliver iv :: rest) :
    step s = if irq s then enterInterrupt iv (s.setAgenda rest) else .next (s.setAgenda rest) := by
  simp [step, takeStep, hf, ha, takeTurn, hd]

/-- Settles O29: what the line is, and what a delivery's turn does by it. -/
theorem interruptLineIsUnmaskedLatches : Obligations.InterruptLineIsUnmaskedLatches := by
  refine ⟨irq_eq_true_iff, fun s iv rest hf hd ha => ?_⟩
  rw [step_deliver_turn hf hd ha]
  exact ⟨fun h => if_pos h, fun h => if_neg (Bool.not_eq_true _ ▸ h)⟩

/-! ### A response (rule R88) -/

theorem lengthFits_short {index : BitVec 6} {v : BitVec 48} : lengthFits index (.short v) = true ↔
    (respClass index = some .r1 ∨ respClass index = some .r1b) ∨ respClass index = some .r3 := by
  unfold lengthFits
  cases respClass index with
  | none => simp
  | some c => cases c <;> simp

theorem lengthFits_long {index : BitVec 6} {v : BitVec 136} :
    lengthFits index (.long v) = true ↔ respClass index = some .r2 := by
  unfold lengthFits
  cases respClass index with
  | none => simp
  | some c => cases c <;> simp

/-- The start bit and the transmission bit are both 0. -/
theorem two_bits_zero_iff {w : Nat} (v : BitVec w) (i : Nat) :
    v.extractLsb' i 2 = 0#2 ↔ v.getLsbD (i + 1) = false ∧ v.getLsbD i = false := by
  constructor
  · intro h
    have bit (k : Nat) : (v.extractLsb' i 2).getLsbD k = false := by rw [h, BitVec.getLsbD_zero]
    exact ⟨by simpa using bit 1, by simpa using bit 0⟩
  · rintro ⟨high, low⟩
    refine BitVec.eq_of_getLsbD_eq fun k hk => ?_
    obtain rfl | rfl : k = 0 ∨ k = 1 := by omega
    · simpa using low
    · simpa using high

theorem responseFits_short (index : BitVec 6) (v : BitVec 48) : responseFits index (.short v) = true ↔
    v.getLsbD 47 = false ∧ v.getLsbD 46 = false ∧ v.getLsbD 0 = true
    ∧ (((respClass index = some .r1 ∨ respClass index = some .r1b) ∧ v.extractLsb' 40 6 = index)
      ∨ (respClass index = some .r3 ∧ v.extractLsb' 40 6 = 0x3F#6 ∧ v.extractLsb' 1 7 = 0x7F#7)) := by
  rw [responseFits, Bool.and_eq_true, lengthFits_short]
  simp only [layoutFits, Bool.and_eq_true, beq_iff_eq, two_bits_zero_iff]
  by_cases h3 : respClass index = some .r3
  · simp [h3, and_assoc]
  · simp only [h3, or_false, false_and, if_false, beq_iff_eq]
    constructor
    · rintro ⟨hclass, ⟨⟨hstart, htransmission⟩, hend⟩, hindex⟩
      exact ⟨hstart, htransmission, hend, hclass, hindex⟩
    · rintro ⟨hstart, htransmission, hend, hclass, hindex⟩
      exact ⟨hclass, ⟨⟨hstart, htransmission⟩, hend⟩, hindex⟩

theorem responseFits_long (index : BitVec 6) (v : BitVec 136) : responseFits index (.long v) = true ↔
    v.getLsbD 135 = false ∧ v.getLsbD 134 = false ∧ v.getLsbD 0 = true
    ∧ respClass index = some .r2 ∧ v.extractLsb' 128 6 = 0x3F#6 := by
  rw [responseFits, Bool.and_eq_true, lengthFits_long]
  simp only [layoutFits, Bool.and_eq_true, beq_iff_eq, two_bits_zero_iff]
  constructor
  · rintro ⟨hclass, ⟨⟨hstart, htransmission⟩, hindex⟩, hend⟩
    exact ⟨hstart, htransmission, hend, hclass, hindex⟩
  · rintro ⟨hstart, htransmission, hend, hclass, hindex⟩
    exact ⟨hclass, ⟨⟨hstart, htransmission⟩, hindex⟩, hend⟩

theorem countFits_iff {index : BitVec 6} {n : Nat} :
    countFits index n = true ↔ (index = 18#6 ∨ index = 25#6 → 1 ≤ n) := by
  rw [countFits, Bool.or_eq_true, Bool.and_eq_true, bne_iff_ne, bne_iff_ne, decide_eq_true_eq, ← not_or]
  exact Decidable.imp_iff_not_or.symm

/-! ### The command events (rules R128 to R130) -/

/-- A response that is not taken: no command awaits it, it is no response to that command, or its block count is 0. -/
theorem respOk_eq_none {p : Resp} {n : Nat} {s : State}
    (h : s.hid.cmdPhase ≠ .awaitingResponse ∨ responseFits s.hid.curIndex p = false
      ∨ countFits s.hid.curIndex n = false) :
    respOk p n s = none := by
  refine if_neg ?_
  rintro ⟨hphase, hfits, hcount⟩
  obtain h | h | h := h
  · exact h hphase
  · exact Bool.eq_false_iff.1 h hfits
  · exact Bool.eq_false_iff.1 h hcount

/-- A response that is taken. -/
theorem respOk_eq_some {p : Resp} {n : Nat} {s : State} (hphase : s.hid.cmdPhase = .awaitingResponse)
    (hfits : responseFits s.hid.curIndex p = true) (hcount : countFits s.hid.curIndex n = true) :
    respOk p n s = some (raiseCommand maskRrcv
      ((s.setRegs { s.regs with rr := loadResponse s.regs.rr p }).setHid
        (startDataPhase s.cfg { s.hid with cmdPhase := .none } n))) :=
  if_pos ⟨hphase, hfits, hcount⟩

/-- A 136-bit response fills the seventeen registers, the first byte in `RR0` (rule R129). -/
theorem get_loadResponse_long (r : RespRegs) (v : BitVec 136) (k : Fin 17) :
    (loadResponse r (.long v)).get k = v.extractLsb' (128 - 8 * k.val) 8 := by
  match k with
  | 0 | 1 | 2 | 3 | 4 | 5 | 6 | 7 | 8 | 9 | 10 | 11 | 12 | 13 | 14 | 15 | 16 => rfl
  | ⟨j + 17, hj⟩ => omega

/-- A command without data leaves the data phase as it is. -/
theorem startDataPhase_other {c : Cfg} {h : Hidden} {n : Nat} (h24 : h.curIndex ≠ 24#6) (h25 : h.curIndex ≠ 25#6)
    (h17 : h.curIndex ≠ 17#6) (h8 : h.curIndex ≠ 8#6) (h18 : h.curIndex ≠ 18#6) (h12 : h.curIndex ≠ 12#6) :
    startDataPhase c h n = h := by
  have ne {k : BitVec 6} (hk : h.curIndex ≠ k) : h.curIndex.toNat ≠ k.toNat := fun e => hk (BitVec.eq_of_toNat_eq e)
  unfold startDataPhase
  split
  next e => exact absurd e (ne h24)
  next e => exact absurd e (ne h25)
  next e => exact absurd e (ne h17)
  next e => exact absurd e (ne h8)
  next e => exact absurd e (ne h18)
  next e => exact absurd e (ne h12)
  · rfl

/-- Settles O30: the layout of a response, then each event where it is enabled and where it is not. -/
theorem commandEventsFollowTheContract : Obligations.CommandEventsFollowTheContract := by
  refine ⟨fun index => ⟨responseFits_short index, responseFits_long index⟩, fun s =>
    ⟨fun h => if_pos h, fun h => if_neg h, fun silent h => ?failed, fun silent h => if_neg h,
      fun p n h => respOk_eq_none (.inl h), fun p n h => respOk_eq_none (.inr (.inl h)),
      fun v n h => ?notLong, fun v n h => ?notShort, fun p h => ?noCount, fun p n hphase hfits hcount => ?taken⟩⟩
  case failed =>
    refine (if_pos h).trans ?_
    cases silent <;> rfl
  case notLong =>
    refine respOk_eq_none (.inr (.inl ?_))
    rw [← Bool.not_eq_true, responseFits_long]
    rintro ⟨-, -, -, hclass, -⟩
    exact h hclass
  case notShort =>
    refine respOk_eq_none (.inr (.inl ?_))
    rw [← Bool.not_eq_true, responseFits_short, h]
    simp
  case noCount =>
    refine respOk_eq_none (.inr (.inr ?_))
    rw [← Bool.not_eq_true, countFits_iff]
    exact fun hn => absurd (hn h) (by decide)
  case taken =>
    refine ⟨loadResponse s.regs.rr p, startDataPhase s.cfg { s.hid with cmdPhase := .none } n, ?_, ?_, fun h => ?_,
      fun h => ?_, fun h => ?_, fun h => ?_, fun h => ?_, fun h24 h25 h17 h8 h18 h12 => ?_⟩
    · refine (respOk_eq_some hphase hfits (countFits_iff.2 hcount)).trans ?_
      rw [startDataPhase_frame]
      rfl
    · cases p with
      | short v => rfl
      | long v => exact get_loadResponse_long s.regs.rr v
    · simp [startDataPhase, h]
    · simp [startDataPhase, h]
    · obtain h | h := h <;> simp [startDataPhase, h]
    · simp [startDataPhase, h]
    · simp [startDataPhase, h]
    · rw [startDataPhase_other (h := { s.hid with cmdPhase := .none }) h24 h25 h17 h8 h18 h12]

/-! ### The data events (rules R131 to R134) -/

theorem raiseBlock_sb (bits : Byte) {tier : Tier} (h : tier = .sb) (s : State) :
    raiseBlock tier bits s = s.setRegs { s.regs with sbisr := s.regs.sbisr ||| bits } := by
  rw [h, raiseBlock]

theorem raiseBlock_mb (bits : Byte) {tier : Tier} (h : tier = .mb) (s : State) :
    raiseBlock tier bits s = s.setRegs { s.regs with mbisr := s.regs.mbisr ||| bits } := by
  rw [h, raiseBlock]

/-- The data path waits on a FIFO: a write on an empty one, a read on a full one (rule R134). -/
theorem starved_iff (s : State) : starved s = true ↔
    (s.hid.dataPhase = .write ∧ 0 < s.hid.wordsLeft ∧ s.hid.wfifo = [])
    ∨ (s.hid.dataPhase = .read ∧ 0 < s.hid.wordsLeft ∧ fifoDepth s.cfg ≤ s.hid.rfifo.length) := by
  unfold starved
  cases s.hid.dataPhase <;> simp

theorem wordOut_eq_some {s : State} {w : Word} {rest : List Word} (hphase : s.hid.dataPhase = .write)
    (hleft : 0 < s.hid.wordsLeft) (h : s.hid.wfifo = w :: rest) :
    wordOut s = some ((s.setHid { s.hid with wfifo := rest, wordsLeft := s.hid.wordsLeft - 1 }).setDeviceWords
      (s.deviceWords ++ [w])) := by
  simp only [wordOut, h]
  exact if_pos ⟨hphase, hleft⟩

theorem wordOut_eq_none {s : State} (h : s.hid.dataPhase ≠ .write ∨ s.hid.wordsLeft = 0 ∨ s.hid.wfifo = []) :
    wordOut s = none := by
  unfold wordOut
  split
  · rfl
  next w rest hw =>
    refine if_neg ?_
    rintro ⟨hphase, hleft⟩
    obtain h | h | h := h
    · exact h hphase
    · omega
    · rw [h] at hw
      cases hw

/-- Settles O31: each event where it is enabled and where it is not. -/
theorem dataEventsFollowTheContract : Obligations.DataEventsFollowTheContract := by
  refine fun s => ⟨fun w rest hphase hleft h => wordOut_eq_some hphase hleft h, fun h => wordOut_eq_none h,
    fun w hphase hleft hroom => if_pos ⟨hphase, hleft, hroom⟩, fun w h => if_neg ?noWordIn,
    fun crc ctrl hphase hend => ⟨_, rfl, fun htier => ?doneSb, fun htier => ?doneMb⟩, fun crc ctrl h => if_neg ?notDone,
    fun h => ⟨fun htier => ?timeoutSb, fun htier => ?timeoutMb⟩, fun hw hr => if_neg ?notStarved⟩
  case noWordIn =>
    rintro ⟨hphase, hleft, hroom⟩
    obtain h | h | h := h
    · exact h hphase
    · omega
    · omega
  case doneSb => exact (if_pos ⟨hphase, hend⟩).trans (congrArg some (raiseBlock_sb _ htier _))
  case doneMb => exact (if_pos ⟨hphase, hend⟩).trans (congrArg some (raiseBlock_mb _ htier _))
  case notDone =>
    rintro ⟨hphase, hend⟩
    obtain h | ⟨hleft, rfl, rfl⟩ := h
    · exact hphase h
    · simp [hleft] at hend
  case timeoutSb => exact (if_pos ((starved_iff s).2 h)).trans (congrArg some (raiseBlock_sb _ htier _))
  case timeoutMb => exact (if_pos ((starved_iff s).2 h)).trans (congrArg some (raiseBlock_mb _ htier _))
  case notStarved =>
    rw [starved_iff]
    exact not_or.2 ⟨hw, hr⟩

end Sys2Proof.Machine
end

section
/-! A plan of ENGINE carried out (20_memory.md rule R71, log entry 3): the steps of a plan, none of which waits, taken one
after another on ENGINE's turns, and the test they lead to; then the sequences the pseudocode names
(41_command_interface.md rules R165, R166, R168, R170). -/

namespace Sys2Proof.Machine

/-! ### ENGINE's position and the agenda -/

/-- The state with these turns to come and this operation in progress. -/
def State.placed (s : State) (turns : List Turn) (c : Option Ctx) : State := { s with agenda := turns, engine := c }

section
variable (s : State) (turns : List Turn) (c : Option Ctx)

@[simp] theorem State.placed_cfg : (s.placed turns c).cfg = s.cfg := rfl
@[simp] theorem State.placed_hid : (s.placed turns c).hid = s.hid := rfl
@[simp] theorem State.placed_mem : (s.placed turns c).mem = s.mem := rfl
@[simp] theorem State.placed_engine : (s.placed turns c).engine = c := rfl

end

theorem State.placed_self {s : State} {turns : List Turn} {c : Option Ctx} (ha : s.agenda = turns) (he : s.engine = c) :
    s.placed turns c = s := by
  subst ha he
  rfl

theorem readReg_placed (r : Reg) (s : State) (turns : List Turn) (c : Option Ctx) :
    readReg r (s.placed turns c) = ((readReg r s).1, (readReg r s).2.placed turns c) := by
  cases r
  case rdr =>
    simp only [readReg, readRdr, State.placed_hid]
    split <;> rfl
  all_goals rfl

theorem writeReg_placed {r : Reg} {w : Word} {s t : State} (h : writeReg r w s = .ok t) (turns : List Turn)
    (c : Option Ctx) : writeReg r w (s.placed turns c) = .ok (t.placed turns c) := by
  cases r <;> simp only [writeReg] at h ⊢
  case arg4 =>
    unfold writeArg4 at h
    split at h
    · cases h
    next hphase =>
      split at h
      · cases h
      next hindex =>
        cases h
        exact writeArg4_triggers (s := s.placed turns c) w.lowByte (Decidable.not_not.1 hphase) hindex
  all_goals cases h
  case wdr =>
    obtain room | full := Nat.lt_or_ge s.hid.wfifo.length (fifoDepth s.cfg)
    · rw [writeWdr_pushes w room, writeWdr_pushes (s := s.placed turns c) w room]; rfl
    · rw [writeWdr_full w full, writeWdr_full (s := s.placed turns c) w full]; rfl
  case ctrl =>
    simp only [writeCtrl]
    split <;> rfl
  all_goals rfl

/-- A step looks neither at the agenda nor at ENGINE's position, and leaves both alone. -/
theorem microStep_placed {m : Micro} {l l' : Locals} {more : List Micro} {s t : State}
    (h : microStep m l s = .next more l' t) (turns : List Turn) (c : Option Ctx) :
    microStep m l (s.placed turns c) = .next more l' (t.placed turns c) := by
  cases m <;> simp only [microStep, readByte, readReg_placed] at h ⊢
  case write r w =>
    split at h
    · next hw => cases h; rw [writeReg_placed hw]
    · cases h
  case fill buf i =>
    split at h
    · next hw => cases h; rw [State.placed_cfg, State.placed_mem, writeReg_placed hw]
    · cases h
  case drain dest i => cases dest <;> cases h <;> rfl
  all_goals cases h; rfl

/-- Nor does a test. -/
theorem continueAt_placed (p : Point) (l : Locals) (s : State) (turns : List Turn) (c : Option Ctx) :
    continueAt p l (s.placed turns c) = continueAt p l s := by
  cases p <;> rfl

/-! ### Steps one after another -/

/-- The locals and the state after some steps, each done in one go: none of them a wait that goes on, none refused. -/
def microSteps : List Micro → Locals → State → Option (Locals × State)
  | [], l, s => some (l, s)
  | m :: rest, l, s =>
    match microStep m l s with
    | .next [] l' t => microSteps rest l' t
    | _ => none

theorem microSteps_cons {m : Micro} {l l' : Locals} {s t : State} (h : microStep m l s = .next [] l' t)
    (rest : List Micro) : microSteps (m :: rest) l s = microSteps rest l' t := by
  simp only [microSteps, h]

theorem microSteps_cons_cases {m : Micro} {rest : List Micro} {l : Locals} {s : State} {r : Locals × State}
    (h : microSteps (m :: rest) l s = some r) :
    ∃ l' t, microStep m l s = .next [] l' t ∧ microSteps rest l' t = some r := by
  unfold microSteps at h
  split at h
  · next l' t hm => exact ⟨l', t, hm, h⟩
  · cases h

theorem microSteps_append (a b : List Micro) (l : Locals) (s : State) :
    microSteps (a ++ b) l s = (microSteps a l s).bind fun r => microSteps b r.1 r.2 := by
  induction a generalizing l s with
  | nil => rfl
  | cons m rest ih =>
    simp only [List.cons_append, microSteps]
    split
    · exact ih _ _
    · rfl

theorem microSteps_placed {todo : List Micro} {l l' : Locals} {s t : State} (h : microSteps todo l s = some (l', t))
    (turns : List Turn) (c : Option Ctx) :
    microSteps todo l (s.placed turns c) = some (l', t.placed turns c) := by
  induction todo generalizing l s with
  | nil => cases h; rfl
  | cons m rest ih =>
    obtain ⟨l₁, u, hm, hrest⟩ := microSteps_cons_cases h
    rw [microSteps_cons (microStep_placed hm turns c)]
    exact ih hrest

/-! ### ENGINE's turns -/

/-- The next `n` steps are ENGINE's and leave `after` to come: `n` turns of ENGINE are given, or no turn at all. -/
def EngineTurns (n : Nat) (turns after : List Turn) : Prop :=
  turns = List.replicate n .engine ++ after ∨ (turns = [] ∧ after = [])

theorem EngineTurns.given (n : Nat) (after : List Turn) : EngineTurns n (List.replicate n .engine ++ after) after :=
  .inl rfl

theorem EngineTurns.background (n : Nat) {turns : List Turn} (h : turns = []) : EngineTurns n turns [] := .inr ⟨h, rfl⟩

theorem EngineTurns.zero {turns after : List Turn} (h : EngineTurns 0 turns after) : turns = after := by
  obtain h | ⟨rfl, rfl⟩ := h
  · exact h
  · rfl

/-- The first `m` of them. -/
theorem EngineTurns.split {m n : Nat} {turns after : List Turn} (h : EngineTurns (m + n) turns after) :
    ∃ mid, EngineTurns m turns mid ∧ EngineTurns n mid after := by
  obtain rfl | ⟨rfl, rfl⟩ := h
  · refine ⟨List.replicate n .engine ++ after, ?_, .given n after⟩
    rw [← List.replicate_append_replicate, List.append_assoc]
    exact .given m _
  · exact ⟨[], .background m rfl, .background n rfl⟩

theorem EngineTurns.step {turns after : List Turn} {s : State} (h : EngineTurns 1 turns after) (ha : s.agenda = turns)
    (hf : s.faulted = none) (hd : s.disp = none) : step s = engineStep (s.placed after s.engine) := by
  obtain rfl | ⟨rfl, rfl⟩ := h
  · exact step_engine_turn hf ha hd
  · rw [step_eq_engineStep hf ha hd, State.placed_self ha rfl]

/-! ### A plan carried out -/

/-- ENGINE after a test: on with a new plan, or idle with the value handed over. -/
def State.decided (s : State) (after : List Turn) : Decision → State
  | .run todo p l => s.placed after (some ⟨todo, p, l⟩)
  | .finish v => (s.placed after none).setResult v

theorem State.decided_placed (s : State) (turns after : List Turn) (c : Option Ctx) (d : Decision) :
    (s.placed turns c).decided after d = s.decided after d := by
  cases d <;> rfl

theorem State.decided_run (s : State) (after : List Turn) (todo : List Micro) (p : Point) (l : Locals) :
    s.decided after (.run todo p l) = s.placed after (some ⟨todo, p, l⟩) := rfl

@[simp] theorem State.decided_regs (s : State) (after : List Turn) (d : Decision) : (s.decided after d).regs = s.regs := by
  cases d <;> rfl

@[simp] theorem State.decided_hid (s : State) (after : List Turn) (d : Decision) : (s.decided after d).hid = s.hid := by
  cases d <;> rfl

/-- A step that is not the last planned one. -/
theorem step_planned {s t : State} {m m' : Micro} {rest : List Micro} {p : Point} {l l' : Locals} {after : List Turn}
    (hf : s.faulted = none) (hd : s.disp = none) (he : s.engine = some ⟨m :: m' :: rest, p, l⟩)
    (hturns : EngineTurns 1 s.agenda after) (h : microStep m l s = .next [] l' t) :
    step s = .next (t.placed after (some ⟨m' :: rest, p, l'⟩)) := by
  rw [hturns.step rfl hf hd]
  exact engineStep_running (s := s.placed after s.engine) he (ctxStep_more (microStep_placed h after s.engine))

/-- The last planned step, with the test it leads to. -/
theorem step_last_planned {s t : State} {m : Micro} {p : Point} {l l' : Locals} {after : List Turn}
    (hf : s.faulted = none) (hd : s.disp = none) (he : s.engine = some ⟨[m], p, l⟩)
    (hturns : EngineTurns 1 s.agenda after) (h : microStep m l s = .next [] l' t) :
    step s = .next (t.decided after (continueAt p l' t)) := by
  have last := ctxStep_last (p := p) (microStep_placed h after s.engine)
  rw [settle, continueAt_placed] at last
  rw [hturns.step rfl hf hd]
  cases hc : continueAt p l' t with
  | run todo q l'' =>
    rw [hc] at last
    exact engineStep_running (s := s.placed after s.engine) he last
  | finish v =>
    rw [hc] at last
    exact engineStep_finished (s := s.placed after s.engine) he last

/-- The steps of a plan but for its rest. -/
theorem run_planned {todo rest : List Micro} {m : Micro} {p : Point} {l l' : Locals} {s t : State} {after : List Turn}
    (hf : s.faulted = none) (hd : s.disp = none) (he : s.engine = some ⟨todo ++ m :: rest, p, l⟩)
    (hturns : EngineTurns todo.length s.agenda after) (h : microSteps todo l s = some (l', t)) :
    run todo.length s = .next (t.placed after (some ⟨m :: rest, p, l'⟩)) := by
  induction todo generalizing l s t with
  | nil =>
    cases h
    exact congrArg Host.Outcome.next (State.placed_self hturns.zero he).symm
  | cons m₀ todo ih =>
    obtain ⟨l₁, u, hm, hrest⟩ := microSteps_cons_cases h
    rw [List.length_cons, Nat.add_comm] at hturns
    obtain ⟨mid, hfirst, hturns⟩ := hturns.split
    obtain ⟨m₁, todo', hsplit⟩ : ∃ m₁ todo', todo ++ m :: rest = m₁ :: todo' := by
      cases todo <;> exact ⟨_, _, rfl⟩
    rw [List.cons_append, hsplit] at he
    rw [List.length_cons, run_next (step_planned hf hd he hfirst hm), ← hsplit]
    have hframe := microStep_frame hm
    refine ih (t := t.placed mid _) ?_ ?_ rfl hturns (microSteps_placed hrest mid _)
    · rw [hframe]; exact hf
    · rw [hframe]; exact hd

theorem microSteps_frame {todo : List Micro} {l l' : Locals} {s t : State} (h : microSteps todo l s = some (l', t)) :
    t.faulted = s.faulted ∧ t.disp = s.disp := by
  induction todo generalizing l s with
  | nil => cases h; exact ⟨rfl, rfl⟩
  | cons m rest ih =>
    obtain ⟨l₁, u, hm, hrest⟩ := microSteps_cons_cases h
    obtain ⟨hf, hd⟩ := ih hrest
    rw [microStep_frame hm] at hf hd
    exact ⟨hf, hd⟩

/-- The whole of a plan, with the test it leads to. -/
theorem run_plan {todo : List Micro} {p : Point} {l l' : Locals} {s t : State} {after : List Turn} (hne : todo ≠ [])
    (hf : s.faulted = none) (hd : s.disp = none) (he : s.engine = some ⟨todo, p, l⟩)
    (hturns : EngineTurns todo.length s.agenda after) (h : microSteps todo l s = some (l', t)) :
    run todo.length s = .next (t.decided after (continueAt p l' t)) := by
  obtain ⟨init, m, rfl⟩ : ∃ init m, todo = init ++ [m] := ⟨_, _, (List.dropLast_concat_getLast hne).symm⟩
  rw [List.length_append] at hturns ⊢
  obtain ⟨mid, hinit, hlast⟩ := hturns.split
  rw [microSteps_append, Option.bind_eq_some_iff] at h
  obtain ⟨⟨l₁, u⟩, h₁, h₂⟩ := h
  obtain ⟨l₂, v, hm, ⟨⟩⟩ := microSteps_cons_cases (l := l₁) (s := u) h₂
  obtain ⟨hf', hd'⟩ := microSteps_frame h₁
  rw [run_add (run_planned hf hd he hinit h₁)]
  have last := step_last_planned (s := u.placed mid _) (p := p) (hf'.trans hf) (hd'.trans hd) rfl hlast
    (microStep_placed hm mid _)
  refine (run_next (n := 0) last).trans ?_
  rw [run_zero, continueAt_placed, State.decided_placed]

/-- The same, ENGINE's position and the agenda being given. -/
theorem run_plan_placed {todo : List Micro} {p : Point} {l l' : Locals} {s t : State} {turns after : List Turn}
    (hne : todo ≠ []) (hf : s.faulted = none) (hd : s.disp = none) (hturns : EngineTurns todo.length turns after)
    (h : microSteps todo l s = some (l', t)) :
    run todo.length (s.placed turns (some ⟨todo, p, l⟩)) = .next (t.decided after (continueAt p l' t)) := by
  rw [run_plan (s := s.placed turns _) hne hf hd rfl hturns (microSteps_placed h turns _), continueAt_placed,
    State.decided_placed]

/-- A planned register write that is refused refuses the step. -/
theorem step_write_refused {s : State} {r : Reg} {w : Word} {rest : List Micro} {p : Point} {l : Locals} {e : Refusal}
    {after : List Turn} (hf : s.faulted = none) (hd : s.disp = none)
    (he : s.engine = some ⟨.write r w :: rest, p, l⟩) (hturns : EngineTurns 1 s.agenda after)
    (h : writeReg r w (s.placed after s.engine) = .error e) : step s = .refused e := by
  rw [hturns.step rfl hf hd]
  simp only [engineStep, State.placed_engine, he, ctxStep, microStep] at h ⊢
  rw [h]

/-! ### The sequences the pseudocode names -/

/-- The four writes of rule R165 before the trigger. -/
def writesBeforeTrigger (index : BitVec 6) (arg : Word) : List Micro :=
  [.write .cmdx (index.setWidth 32),
   .write .arg1 (Byte.zext (arg.extractLsb' 24 8)),
   .write .arg2 (Byte.zext (arg.extractLsb' 16 8)),
   .write .arg3 (Byte.zext (arg.extractLsb' 8 8))]

theorem fiveWrites_eq (index : BitVec 6) (arg : Word) :
    fiveWrites index arg = writesBeforeTrigger index arg ++ [.write .arg4 (Byte.zext (arg.extractLsb' 0 8))] := rfl

/-- The command registers of rule R165 written, the trigger not yet. -/
def State.commandPrepared (s : State) (index : BitVec 6) (arg : Word) : State :=
  s.setRegs { s.regs with
    cmdx := index.setWidth 8
    arg1 := arg.extractLsb' 24 8
    arg2 := arg.extractLsb' 16 8
    arg3 := arg.extractLsb' 8 8 }

theorem microSteps_writesBeforeTrigger (index : BitVec 6) (arg : Word) (l : Locals) (s : State) :
    microSteps (writesBeforeTrigger index arg) l s = some (l, s.commandPrepared index arg) := by
  simp only [writesBeforeTrigger, microSteps, microStep, writeReg, lowByte_zext, cmdx_of_index]
  rfl

/-- The five writes, no command being open, latch the command (40_register_model.md rule R114). -/
theorem microSteps_fiveWrites {index : BitVec 6} (arg : Word) (l : Locals) {s : State} (hphase : s.hid.cmdPhase = .none)
    (hindex : respClass index ≠ none) : microSteps (fiveWrites index arg) l s = some (l, s.commandSent index arg) := by
  have trigger := writeArg4_triggers (s := s.commandPrepared index arg) (arg.extractLsb' 0 8) hphase
    (by rwa [State.commandPrepared, State.setRegs_regs, index_of_cmdx])
  rw [← writeReg_arg4] at trigger
  rw [fiveWrites_eq, microSteps_append, microSteps_writesBeforeTrigger]
  simp only [Option.bind_some, microSteps, microStep, trigger]
  simp only [State.commandPrepared, State.setRegs_regs, index_of_cmdx, argument_of_bytes]
  rfl

/-- `clear_all` (rule R166). -/
theorem microSteps_clearAll (l : Locals) (s : State) : microSteps clearAll l s = some (l, s.latchesCleared) := by
  have cleared (b : Byte) : b &&& ~~~(Word.lowByte 0xFF) = 0#8 := clear_all_bits b
  simp only [clearAll, microSteps, microStep, writeReg, cleared]
  rfl

/-- `SENT` set: the wait of rule R165 is over in one step. -/
theorem microStep_pollSent {l : Locals} {s : State} (h : s.regs.isr.getLsbD 0 = true) :
    microStep .pollSent l s = .next [] { l with polled := s.regs.isr } s := by
  simp only [microStep, readByte, readReg, lowByte_zext, h, if_true]

/-- `SENT` clear: it goes on. -/
theorem microStep_pollSent_waits {l : Locals} {s : State} (h : s.regs.isr.getLsbD 0 = false) :
    microStep .pollSent l s = .next [.pollSent] { l with polled := s.regs.isr } s := by
  simp only [microStep, readByte, readReg, lowByte_zext, h, Bool.false_eq_true, if_false]

/-- `RRCV`, `RERR` or `SBE` set: the wait of rule R167 is over in one step. -/
theorem microStep_pollResponse {l : Locals} {s : State} (h : s.regs.isr &&& 0x0E#8 ≠ 0#8) :
    microStep .pollResponse l s = .next [] { l with polled := s.regs.isr } s := by
  simp [microStep, readByte, readReg, h]

/-- `read_payload32` (rule R168). -/
theorem microSteps_readPayload32 (l : Locals) (s : State) :
    microSteps readPayload32 l s = some ({ l with payload := s.cardStatus }, s) := by
  rw [← payload_after_reads s l.payload]
  simp only [readPayload32, microSteps, microStep, readByte, readReg_rr, lowByte_zext]
  rfl

theorem microStep_r2Byte (n : Fin 17) (l : Locals) (s : State) :
    microStep (.r2Byte n) l s = .next [] { l with r2 := appendR2 l.r2 (s.regs.rr.get n) } s := by
  simp only [microStep, readByte, readReg_rr, lowByte_zext]

/-- Response registers read one after another enter `read_r2`'s value at its low end (rule R170). -/
theorem microSteps_r2Bytes (ns : List (Fin 17)) (l : Locals) (s : State) :
    microSteps (ns.map .r2Byte) l s = some ({ l with r2 := (ns.map s.regs.rr.get).foldl appendR2 l.r2 }, s) := by
  induction ns generalizing l with
  | nil => rfl
  | cons n rest ih =>
    rw [List.map_cons, microSteps_cons (microStep_r2Byte n l s), ih]
    rfl

end Sys2Proof.Machine
end

section
/-! The command interface (41_command_interface.md rules R150 to R164, R169 to R172): `parse_r1` and the bit fields,
`read_r2`, and the commands HOST sends. -/

namespace Sys2Proof.Machine

/-! ### `parse_r1` and the bit fields (rules R169, R171, R172) -/

/-- Bit `k` of `v[hi:lo]` is bit `lo + k` of `v`. -/
theorem getLsbD_field {hi lo : Nat} (hle : lo ≤ hi) (hhi : hi < 32) (v : Word) (k : Nat) :
    (field v hi lo).getLsbD k = (decide (k ≤ hi - lo) && v.getLsbD (lo + k)) := by
  simp only [field, BitVec.getLsbD_and, BitVec.getLsbD_ushiftRight, BitVec.getLsbD_ofNat, Nat.testBit_two_pow_sub_one]
  rw [Bool.and_comm]
  congr 1
  rw [← Bool.decide_and]
  exact decide_eq_decide.2 (by omega)

theorem parseR1_fail {c : Cfg} {cs : Word} (h : cs &&& c.r1ErrorMask ≠ 0#32) : parseR1 c cs = .fail :=
  if_pos (bne_iff_ne.2 h)

theorem parseR1_busy {c : Cfg} {cs : Word} (h : cs &&& c.r1ErrorMask = 0#32) (hready : cs.getLsbD c.r1ReadyBit = false) :
    parseR1 c cs = .busy := by
  simp [parseR1, h, hready]

theorem parseR1_success {c : Cfg} {cs : Word} (h : cs &&& c.r1ErrorMask = 0#32) (hready : cs.getLsbD c.r1ReadyBit = true) :
    parseR1 c cs = .success := by
  simp [parseR1, h, hready]

/-- The three answers of `parse_r1` exclude each other. -/
theorem parseR1_iff (c : Cfg) (cs : Word) :
    (parseR1 c cs = .fail ↔ cs &&& c.r1ErrorMask ≠ 0#32)
    ∧ (parseR1 c cs = .busy ↔ cs &&& c.r1ErrorMask = 0#32 ∧ cs.getLsbD c.r1ReadyBit = false)
    ∧ (parseR1 c cs = .success ↔ cs &&& c.r1ErrorMask = 0#32 ∧ cs.getLsbD c.r1ReadyBit = true) := by
  by_cases h : cs &&& c.r1ErrorMask = 0#32
  · cases hready : cs.getLsbD c.r1ReadyBit with
    | false => simp [parseR1_busy h hready, h]
    | true => simp [parseR1_success h hready, h]
  · simp [parseR1_fail h, h]

/-- Settles O35, from the three answers and the bits of a field; the examples are computed. -/
theorem parseTestsErrorBeforeReady : Obligations.ParseTestsErrorBeforeReady := by
  refine ⟨parseR1_iff, fun c o k => ⟨rfl, fun hle hhi => getLsbD_field hle hhi o k⟩,
    fun c cs k hle hhi => getLsbD_field hle hhi cs k, fun c hmask hready => ?status, fun c hready hhi hlo => ?ocr,
    fun c hhi hlo => ?state⟩
  case status =>
    simp only [parseR1, hmask, hready]
    decide
  case ocr =>
    simp only [ocrReady, ocrMode, hready, hhi, hlo]
    decide
  case state =>
    simp only [curState, hhi, hlo]
    decide

/-! ### `read_r2` (rule R170) -/

theorem getLsbD_appendR2 (v : BitVec 128) (b : Byte) (i : Nat) :
    (appendR2 v b).getLsbD i = if i < 8 then b.getLsbD i else decide (i - 8 < 120) && v.getLsbD (i - 8) := by
  refine (BitVec.getLsbD_append (x := v.extractLsb' 0 120) (y := b)).trans ?_
  rw [BitVec.getLsbD_extractLsb', Nat.zero_add]

/-- A byte appended, the bytes before it cut to the value's width. -/
theorem appendR2_setWidth {w : Nat} (v : BitVec w) (b : Byte) :
    appendR2 (v.setWidth 128) b = (v ++ b).setWidth 128 := by
  refine BitVec.eq_of_getLsbD_eq fun i hi => ?_
  rw [getLsbD_appendR2, BitVec.getLsbD_setWidth, BitVec.getLsbD_setWidth, BitVec.getLsbD_append]
  split
  · simp [hi]
  · simp [hi, show i - 8 < 120 by omega, show i - 8 < 128 by omega]

/-- `RR1 ‖ … ‖ RR16`. -/
def RespRegs.payload (r : RespRegs) : BitVec 128 :=
  r.rr1 ++ r.rr2 ++ r.rr3 ++ r.rr4 ++ r.rr5 ++ r.rr6 ++ r.rr7 ++ r.rr8 ++ r.rr9 ++ r.rr10 ++ r.rr11 ++ r.rr12
    ++ r.rr13 ++ r.rr14 ++ r.rr15 ++ r.rr16

/-- The registers `read_r2` reads. -/
def r2Registers : List (Fin 17) := [1, 2, 3, 4, 5, 6, 7, 8, 9, 10, 11, 12, 13, 14, 15, 16]

theorem readR2_eq : readR2 = r2Registers.map .r2Byte := rfl

/-- The sixteen bytes, appended one by one to nothing, are the payload. -/
theorem payload_of_r2_bytes (r : RespRegs) : (r2Registers.map r.get).foldl appendR2 0#128 = r.payload := by
  have bytes : r2Registers.map r.get = [r.rr1, r.rr2, r.rr3, r.rr4, r.rr5, r.rr6, r.rr7, r.rr8, r.rr9, r.rr10, r.rr11,
      r.rr12, r.rr13, r.rr14, r.rr15, r.rr16] := rfl
  have first : appendR2 0#128 r.rr1 = r.rr1.setWidth 128 := by
    refine (appendR2_setWidth 0#0 r.rr1).trans ?_
    rw [BitVec.zero_width_append, BitVec.setWidth_cast]
  simp only [bytes, List.foldl_cons, List.foldl_nil, first, appendR2_setWidth]
  exact BitVec.setWidth_eq r.payload

theorem microSteps_readR2 (s : State) :
    microSteps readR2 Locals.start s = some ({ Locals.start with r2 := s.regs.rr.payload }, s) := by
  rw [readR2_eq, microSteps_r2Bytes, ← payload_of_r2_bytes]
  rfl

/-- `read_r2` waits as a request does (20_memory.md rule R71 item 4; log entry 28). -/
theorem step_readR2_waits {s : State} {rest : List Turn} (hf : s.faulted = none) (ha : s.agenda = .readR2 :: rest)
    (hbusy : s.disp ≠ none ∨ s.engine ≠ none) : step s = background s := by
  simp only [step, takeStep, hf, ha, takeTurn]
  refine if_pos ?_
  rwa [Bool.or_eq_true, Option.isSome_iff_ne_none, Option.isSome_iff_ne_none]

/-- With nothing in progress it begins. -/
theorem step_readR2_begins {s : State} {rest : List Turn} (hf : s.faulted = none) (hd : s.disp = none)
    (he : s.engine = none) (ha : s.agenda = .readR2 :: rest) :
    step s = .next ((s.setResult none).placed rest (some ⟨readR2, .r2Read, Locals.start⟩)) := by
  simp only [step, takeStep, hf, ha, takeTurn, hd, he]
  rfl

/-- Settles O36, from the request's turn, a byte's step and the plan of sixteen bytes. -/
theorem readR2GivesThePayload : Obligations.ReadR2GivesThePayload := by
  refine ⟨fun s rest hf ha => ⟨fun hd => ?delivery, fun hd he => ?operation, fun hd he => ?begins⟩,
    fun s n m rest l he => ?byte, fun s hf hd he ha => ?whole⟩
  case delivery => rw [step_readR2_waits hf ha (.inl hd), background_of_delivery hd]
  case operation => rw [step_readR2_waits hf ha (.inr he), background_of_no_delivery hd]
  case begins => exact ⟨_, step_readR2_begins hf hd he ha, rfl, rfl⟩
  case byte => exact engineStep_running he (ctxStep_more (microStep_r2Byte n l s))
  case whole =>
    rw [run_next (step_readR2_begins hf hd he ha)]
    refine Eq.trans (run_plan (todo := readR2) (List.cons_ne_nil _ _) hf hd rfl (.background 16 rfl)
      (microSteps_readR2 _)) ?_
    rw [← State.placed_self rfl he]
    rfl

/-! ### The commands HOST sends (rules R150 to R164) -/

/-- The five writes to the end of their plan: with no command open the last triggers. -/
theorem run_fiveWrites {index : BitVec 6} {arg : Word} {p : Point} {l : Locals} {s : State} {after : List Turn}
    (hf : s.faulted = none) (hd : s.disp = none) (he : s.engine = some ⟨fiveWrites index arg, p, l⟩)
    (hturns : EngineTurns 5 s.agenda after) (hphase : s.hid.cmdPhase = .none) (hindex : respClass index ≠ none) :
    run 5 s = .next ((s.commandSent index arg).decided after (continueAt p l (s.commandSent index arg))) :=
  run_plan (List.cons_ne_nil _ _) hf hd he hturns (microSteps_fiveWrites arg l hphase hindex)

/-- With one open the trigger is refused (40_register_model.md rule R136), whatever follows it in the plan. -/
theorem run_fiveWrites_refused {index : BitVec 6} {arg : Word} {rest : List Micro} {p : Point} {l : Locals} {s : State}
    {after : List Turn} (hf : s.faulted = none) (hd : s.disp = none)
    (he : s.engine = some ⟨fiveWrites index arg ++ rest, p, l⟩) (hturns : EngineTurns 5 s.agenda after)
    (hphase : s.hid.cmdPhase ≠ .none) : run 5 s = .refused .commandInFlight := by
  obtain ⟨mid, hbefore, htrigger⟩ := EngineTurns.split (m := 4) (n := 1) hturns
  have before := run_planned (todo := writesBeforeTrigger index arg) hf hd he hbefore
    (microSteps_writesBeforeTrigger index arg l s)
  refine (run_add (m := 4) (n := 1) before).trans (run_refused (step_write_refused hf hd rfl htrigger ?_))
  rw [writeReg_arg4]
  exact writeArg4_in_flight _ hphase

theorem respClass_eq_none {index : BitVec 6} (h : index.toNat ∉ [0, 1, 2, 3, 6, 7, 8, 12, 13, 17, 18, 23, 24, 25]) :
    respClass index = none := by
  revert index
  decide

/-- A block at rest with no command open: the request of the five writes is five steps. -/
theorem run_hostSend {index : BitVec 6} {arg : Word} {s : State} (hs : Quiet s) (hphase : s.hid.cmdPhase = .none)
    (hindex : respClass index ≠ none) :
    run 5 ((s.setResult none).setEngine (some ⟨fiveWrites index arg, .ret none, Locals.start⟩))
      = .next { s.commandSent index arg with result := none } := by
  obtain ⟨hf, he, hd, ha⟩ := hs
  refine Eq.trans (run_fiveWrites hf hd rfl (.background 5 ha) hphase hindex) ?_
  rw [← State.placed_self ha he]
  rfl

/-- An instruction that sends a command with a response class by the five writes of rule R165. -/
theorem sendsCommand_of_exec {i : Instr} {index : BitVec 6} {arg : Word} (hindex : respClass index ≠ none)
    (hexec : ∀ s, exec i s = hostSend index arg s) : SendsCommand i index arg := by
  refine fun s hs => ⟨_, hexec s, fun hphase => run_hostSend hs hphase hindex, fun hphase => ?_⟩
  obtain ⟨hf, he, hd, ha⟩ := hs
  exact run_fiveWrites_refused (rest := []) hf hd rfl (.background 5 ha) hphase

/-- Settles O32: each row is an instruction of that kind; the table of rule R150 is computed. -/
theorem commandRowsWriteFiveRegisters : Obligations.CommandRowsWriteFiveRegisters := by
  intro arg
  refine ⟨?_, ?_, ?_, ?_, ?_, ?_, ?_, ?_, ?_, ?_, ?_, ?_, ?_, ?_, by decide, fun index => respClass_eq_none⟩
  all_goals exact sendsCommand_of_exec (by decide) fun s => rfl

end Sys2Proof.Machine
end

section
/-! The internal operations (41_command_interface.md rules R165 to R169): `send_command` and `issue_command` from the request
to their first wait, the waits, and `issue_command` with CONTROLLER's answer between its waits. -/

namespace Sys2Proof.Machine

/-! ### The requests -/

theorem exec_sendCommand {index : BitVec 6} (hindex : respClass index ≠ none) (iv : Bool) (arg : Word) (policy : Policy)
    (s : State) : exec (.sendCommand iv arg index policy) s = startOperation (sendCommand arg index policy) (.ret none) s :=
  if_neg hindex

theorem exec_issueCommand {index : BitVec 6} (hindex : respClass index ≠ none) (iv : Bool) (arg : Word) (s : State) :
    exec (.issueCommand iv arg index) s = startOperation (issueSteps arg index) (issuePoint index .issued) s :=
  if_neg hindex

/-- With no policy `POLL` there is nothing after the five writes. -/
theorem sendCommand_of_ne_poll {policy : Policy} (h : policy ≠ .poll) (arg : Word) (index : BitVec 6) :
    sendCommand arg index policy = fiveWrites index arg := by
  cases policy
  case poll => exact absurd rfl h
  all_goals rfl

/-! ### Up to the first wait -/

/-- `issue_command` is `clear_all`, the five writes and its waits (rule R167). -/
theorem issueSteps_eq (arg : Word) (index : BitVec 6) :
    issueSteps arg index = (clearAll ++ fiveWrites index arg) ++ .pollSent ::
      if respClass index = some .none then [] else [.pollResponse] := rfl

/-- `issue_command` at its first wait: the latches clear, the command sent. -/
theorem run_issueSteps {index : BitVec 6} {arg : Word} {p : Point} {l : Locals} {s : State} {after : List Turn}
    (hf : s.faulted = none) (hd : s.disp = none) (he : s.engine = some ⟨issueSteps arg index, p, l⟩)
    (hturns : EngineTurns 8 s.agenda after) (hphase : s.hid.cmdPhase = .none) (hindex : respClass index ≠ none) :
    run 8 s = .next ((s.latchesCleared.commandSent index arg).placed after
      (some ⟨.pollSent :: if respClass index = some .none then [] else [.pollResponse], p, l⟩)) := by
  refine run_planned (todo := clearAll ++ fiveWrites index arg) hf hd (issueSteps_eq arg index ▸ he) hturns ?_
  rw [microSteps_append, microSteps_clearAll]
  exact microSteps_fiveWrites (s := s.latchesCleared) arg l hphase hindex

/-- While `SENT` is clear ENGINE waits, and nothing but its locals changes. -/
theorem run_pollSent_waits (n : Nat) {s : State} {p : Point} {l : Locals} (hf : s.faulted = none) (hd : s.disp = none)
    (ha : s.agenda = []) (he : s.engine = some ⟨[.pollSent], p, l⟩) (h : s.regs.isr.getLsbD 0 = false) :
    ∃ l', run n s = .next (s.setEngine (some ⟨[.pollSent], p, l'⟩)) := by
  induction n generalizing s l with
  | zero => exact ⟨l, congrArg Host.Outcome.next (State.placed_self rfl he).symm⟩
  | succ n ih =>
    have waits := engineStep_running he (ctxStep_stay (rest := []) (p := p) (microStep_pollSent_waits (l := l) h))
    rw [← step_eq_engineStep hf ha hd] at waits
    rw [run_next waits]
    exact ih (s := s.setEngine _) hf hd ha rfl h

/-- `send_command` with policy `POLL` at its wait (rule R165): nothing is cleared. -/
theorem run_sendCommand_poll {index : BitVec 6} {arg : Word} {s : State} (hs : Quiet s) (hphase : s.hid.cmdPhase = .none)
    (hindex : respClass index ≠ none) :
    run 5 ((s.setResult none).setEngine (some ⟨sendCommand arg index .poll, .ret none, Locals.start⟩))
      = .next { s.commandSent index arg with
          engine := some ⟨[.pollSent], .ret none, Locals.start⟩
          result := none } := by
  obtain ⟨hf, he, hd, ha⟩ := hs
  refine Eq.trans (run_planned (todo := fiveWrites index arg) hf hd rfl (.background 5 ha)
    (microSteps_fiveWrites arg Locals.start hphase hindex)) ?_
  rw [← State.placed_self ha he]
  rfl

/-- `issue_command` at its first wait, requested of a block at rest. -/
theorem run_issueCommand {index : BitVec 6} {arg : Word} {s : State} (hs : Quiet s) (hphase : s.hid.cmdPhase = .none)
    (hindex : respClass index ≠ none) :
    run 8 ((s.setResult none).setEngine (some ⟨issueSteps arg index, issuePoint index .issued, Locals.start⟩))
      = .next { s.latchesCleared.commandSent index arg with
          engine := some ⟨.pollSent :: if respClass index = some .none then [] else [.pollResponse],
            issuePoint index .issued, Locals.start⟩
          result := none } := by
  obtain ⟨hf, he, hd, ha⟩ := hs
  refine Eq.trans (run_issueSteps hf hd rfl (.background 8 ha) hphase hindex) ?_
  rw [← State.placed_self ha he]
  rfl

/-- Settles O33, by the plan of each operation up to its wait and the two ways the wait goes. -/
theorem internalOperationsSendTheCommand : Obligations.InternalOperationsSendTheCommand := by
  refine fun s iv arg index => ⟨fun hnone => ⟨fun policy => if_pos hnone, if_pos hnone⟩, fun hindex hquiet hphase =>
    ⟨fun policy hpolicy => ⟨_, exec_sendCommand hindex iv arg policy s, ?noWait⟩,
      ⟨_, exec_sendCommand hindex iv arg .poll s, run_sendCommand_poll hquiet hphase hindex, fun hsent => ?stale,
        fun hclear n => ?waits⟩,
      ⟨_, _, exec_issueCommand hindex iv arg s, run_issueCommand hquiet hphase hindex, by split <;> rfl⟩⟩⟩
  case noWait =>
    rw [sendCommand_of_ne_poll hpolicy]
    exact run_hostSend hquiet hphase hindex
  case stale =>
    obtain ⟨hf, he, hd, ha⟩ := id hquiet
    refine (run_add (n := 1) (run_sendCommand_poll hquiet hphase hindex)).trans (run_next (n := 0) ?_)
    refine Eq.trans (step_last_planned hf hd rfl (.background 1 ha) (microStep_pollSent hsent)) ?_
    rw [← State.placed_self ha he]
    rfl
  case waits =>
    obtain ⟨hf, -, hd, ha⟩ := id hquiet
    rw [run_add (run_sendCommand_poll hquiet hphase hindex)]
    obtain ⟨l, waits⟩ := run_pollSent_waits n (s := { s.commandSent index arg with
      engine := some ⟨[.pollSent], .ret none, Locals.start⟩, result := none }) hf hd ha rfl hclear
    exact ⟨_, rfl, waits⟩

/-! ### CONTROLLER's answer -/

theorem raiseBlock_placed (tier : Tier) (bits : Byte) (s : State) (turns : List Turn) (c : Option Ctx) :
    raiseBlock tier bits (s.placed turns c) = (raiseBlock tier bits s).placed turns c := by
  cases tier <;> rfl

/-- An event looks neither at the agenda nor at ENGINE's position, and leaves both alone. -/
theorem controllerStep_placed {e : Event} {s t : State} (h : controllerStep e s = some t) (turns : List Turn)
    (c : Option Ctx) : controllerStep e (s.placed turns c) = some (t.placed turns c) := by
  cases e <;> simp only [controllerStep] at h ⊢
  case wordOut =>
    unfold wordOut at h
    split at h
    · cases h
    next hw =>
      obtain ⟨⟨hphase, hleft⟩, ⟨⟩⟩ := Option.ite_none_right_eq_some.1 h
      exact wordOut_eq_some (s := s.placed turns c) hphase hleft hw
  case dataDone | fifoTimeout =>
    obtain ⟨hcond, ⟨⟩⟩ := Option.ite_none_right_eq_some.1 h
    exact (if_pos hcond).trans (congrArg some (raiseBlock_placed _ _ (s.setHid _) turns c))
  case cmdSent | respOk | respFail | wordIn =>
    obtain ⟨hcond, ⟨⟩⟩ := Option.ite_none_right_eq_some.1 h
    exact if_pos hcond

/-- The command of `issue_command` is out (40_register_model.md rule R128): `SENT` is set, and the answer is awaited or the
command done. -/
def State.commandOut (s : State) (index : BitVec 6) (arg : Word) : State :=
  let t := s.latchesCleared.commandSent index arg
  raiseCommand maskSent (t.setHid
    { t.hid with cmdPhase := if respClass index = some .none then .none else .awaitingResponse })

theorem State.commandOut_isr (s : State) (index : BitVec 6) (arg : Word) : (s.commandOut index arg).regs.isr = 0x01#8 := by
  show 0#8 ||| maskSent = 0x01#8
  decide

theorem State.commandOut_cfg (s : State) (index : BitVec 6) (arg : Word) : (s.commandOut index arg).cfg = s.cfg := rfl

theorem State.commandOut_faulted (s : State) (index : BitVec 6) (arg : Word) :
    (s.commandOut index arg).faulted = s.faulted := rfl

theorem State.commandOut_disp (s : State) (index : BitVec 6) (arg : Word) : (s.commandOut index arg).disp = s.disp := rfl

theorem State.commandOut_cmdPhase_none (s : State) {index : BitVec 6} (arg : Word) (h : respClass index = some .none) :
    (s.commandOut index arg).hid.cmdPhase = .none :=
  if_pos h

theorem State.commandOut_cmdPhase (s : State) {index : BitVec 6} (arg : Word) (h : respClass index ≠ some .none) :
    (s.commandOut index arg).hid.cmdPhase = .awaitingResponse :=
  if_neg h

/-- Eight turns of ENGINE and the event bring `issue_command` to its first wait with the command out. -/
theorem run_issue_sent {index : BitVec 6} {arg : Word} {p : Point} {l : Locals} {s : State} {rest : List Turn}
    (hf : s.faulted = none) (hd : s.disp = none) (hphase : s.hid.cmdPhase = .none) (hindex : respClass index ≠ none) :
    run 9 (s.placed (List.replicate 8 Turn.engine ++ Turn.event .cmdSent :: rest) (some ⟨issueSteps arg index, p, l⟩))
      = .next ((s.commandOut index arg).placed rest
          (some ⟨.pollSent :: if respClass index = some .none then [] else [.pollResponse], p, l⟩)) := by
  have sent : cmdSent (s.latchesCleared.commandSent index arg) = some (s.commandOut index arg) :=
    if_pos (show (s.latchesCleared.commandSent index arg).hid.cmdPhase = .sending from rfl)
  have issued := run_issueSteps (s := s.placed _ (some ⟨issueSteps arg index, p, l⟩)) hf hd rfl
    (.given 8 (.event .cmdSent :: rest)) hphase hindex
  refine (run_add (n := 1) issued).trans (run_next (n := 0) ?_)
  exact step_event_turn (s := (s.latchesCleared.commandSent index arg).placed (.event .cmdSent :: rest) _) hf rfl
    (controllerStep_placed (e := .cmdSent) sent rest _)

/-- A class `none` command has succeeded once it is out (rule R167). -/
theorem run_issue_none {index : BitVec 6} {arg : Word} {k : Cont} {l : Locals} {s : State} {more : List Turn}
    (hf : s.faulted = none) (hd : s.disp = none) (hphase : s.hid.cmdPhase = .none) (hclass : respClass index = some .none) :
    run 10 (s.placed (List.replicate 8 Turn.engine ++ Turn.event .cmdSent :: Turn.engine :: more)
        (some ⟨issueSteps arg index, issuePoint index k, l⟩))
      = .next ((s.commandOut index arg).decided more
          (resume k .success { l with polled := 0x01#8 } (s.commandOut index arg))) := by
  have hindex : respClass index ≠ none := by rw [hclass]; exact Option.some_ne_none _
  have isr := s.commandOut_isr index arg
  have polls : microSteps [.pollSent] l (s.commandOut index arg)
      = some ({ l with polled := 0x01#8 }, s.commandOut index arg) := by
    rw [microSteps_cons (microStep_pollSent (by rw [isr]; decide)), isr]
    rfl
  refine (run_add (n := 1) (run_issue_sent hf hd hphase hindex)).trans ?_
  rw [if_pos hclass, issuePoint, if_pos hclass]
  exact run_plan_placed (todo := [.pollSent]) (List.cons_ne_nil _ _) hf hd (.given 1 more) polls

/-- The turns of a command whose answer is `e`, up to the end of the waits of rule R167; then `more`. -/
def issueTurns (e : Event) (more : List Turn) : List Turn :=
  List.replicate 8 Turn.engine ++ Turn.event .cmdSent :: Turn.event e :: Turn.engine :: Turn.engine :: more

/-- Any other command has its answer looked at once an event has brought it (rule R167). -/
theorem run_issue_answered {index : BitVec 6} {arg : Word} {k : Cont} {l : Locals} {e : Event} {s u : State}
    {more : List Turn}
    (hf : s.faulted = none) (hd : s.disp = none) (hphase : s.hid.cmdPhase = .none) (hindex : respClass index ≠ none)
    (hclass : respClass index ≠ some .none)
    (hanswer : controllerStep e (s.commandOut index arg) = some u) (hsent : u.regs.isr.getLsbD 0 = true)
    (hcame : u.regs.isr &&& 0x0E#8 ≠ 0#8) :
    run 12 (s.placed (issueTurns e more) (some ⟨issueSteps arg index, issuePoint index k, l⟩))
      = .next (u.decided more (afterResponse index k { l with polled := u.regs.isr } u)) := by
  have polls : microSteps [.pollSent, .pollResponse] l u = some ({ l with polled := u.regs.isr }, u) := by
    rw [microSteps_cons (microStep_pollSent hsent), microSteps_cons (microStep_pollResponse hcame)]
    rfl
  have hframe := controllerStep_frame hanswer
  have hf' : u.faulted = none := by rw [hframe]; exact hf
  have hd' : u.disp = none := by rw [hframe]; exact hd
  refine (run_add (n := 3) (run_issue_sent hf hd hphase hindex)).trans ?_
  rw [if_neg hclass, issuePoint, if_neg hclass]
  have looked := run_plan_placed (todo := [.pollSent, .pollResponse]) (p := .responded index k) (List.cons_ne_nil _ _)
    hf' hd' (.given 2 more) polls
  refine Eq.trans (run_next ?_) looked
  exact step_event_turn (s := (s.commandOut index arg).placed _ _) hf rfl (controllerStep_placed hanswer _ _)

/-! ### The answers (rules R167 to R169) -/

/-- An error flag wins. -/
theorem afterResponse_fails {index : BitVec 6} {k : Cont} {l : Locals} (s : State) (h : l.polled &&& 0x0C#8 ≠ 0#8) :
    afterResponse index k l s = resume k .fail l s :=
  if_pos (bne_iff_ne.2 h)

/-- An R1 or R1b answer has its card status read. -/
theorem afterResponse_reads {index : BitVec 6} {k : Cont} {l : Locals} (s : State) (h : l.polled &&& 0x0C#8 = 0#8)
    (hclass : respClass index = some .r1 ∨ respClass index = some .r1b) :
    afterResponse index k l s = .run readPayload32 (.parsed k) l := by
  rw [afterResponse, if_neg (by simp [h]), if_pos hclass]

/-- An R2 or R3 answer succeeds. -/
theorem afterResponse_succeeds {index : BitVec 6} {k : Cont} {l : Locals} (s : State) (h : l.polled &&& 0x0C#8 = 0#8)
    (hclass : ¬ (respClass index = some .r1 ∨ respClass index = some .r1b)) :
    afterResponse index k l s = resume k .success l s := by
  rw [afterResponse, if_neg (by simp [h]), if_neg hclass]

/-- The card status a 48-bit response carries (30_encoding.md rule R88). -/
theorem cardStatus_loadResponse {s : State} {r : RespRegs} {p : BitVec 48} (h : s.regs.rr = loadResponse r (.short p)) :
    s.cardStatus = p.extractLsb' 8 32 := by
  rw [State.cardStatus, h]
  simp only [loadResponse, BitVec.extractLsb'_append_extractLsb'_eq_extractLsb']

/-- After a failed answer (40_register_model.md rule R130). -/
def State.answerFailed (s : State) (silent : Bool) : State :=
  raiseCommand (if silent then maskRerr ||| maskSbe else maskRerr) (s.setHid { s.hid with cmdPhase := .none })

theorem State.answerFailed_isr {s : State} (h : s.regs.isr = 0x01#8) (silent : Bool) :
    (s.answerFailed silent).regs.isr = if silent then 0x0D#8 else 0x05#8 := by
  simp only [answerFailed, raiseCommand, State.setRegs_regs, State.setHid_regs, h]
  cases silent <;> decide

theorem State.answerFailed_cmdPhase (s : State) (silent : Bool) : (s.answerFailed silent).hid.cmdPhase = .none := rfl

theorem controllerStep_respFail {s : State} (silent : Bool) (h : s.hid.cmdPhase = .awaitingResponse) :
    controllerStep (.respFail silent) s = some (s.answerFailed silent) :=
  if_pos h

/-- After a response (40_register_model.md rule R129). -/
def State.responded (s : State) (p : Resp) (n : Nat) : State :=
  raiseCommand maskRrcv ((s.setRegs { s.regs with rr := loadResponse s.regs.rr p }).setHid
    (startDataPhase s.cfg { s.hid with cmdPhase := .none } n))

section
variable (s : State) (p : Resp) (n : Nat)

theorem State.responded_cfg : (s.responded p n).cfg = s.cfg := rfl
theorem State.responded_faulted : (s.responded p n).faulted = s.faulted := rfl
theorem State.responded_disp : (s.responded p n).disp = s.disp := rfl
theorem State.responded_rr : (s.responded p n).regs.rr = loadResponse s.regs.rr p := rfl

theorem State.responded_cmdPhase : (s.responded p n).hid.cmdPhase = .none := by
  show (startDataPhase _ _ n).cmdPhase = .none
  rw [startDataPhase_frame]

end

theorem State.responded_isr {s : State} (h : s.regs.isr = 0x01#8) (p : Resp) (n : Nat) :
    (s.responded p n).regs.isr = 0x03#8 := by
  show s.regs.isr ||| maskRrcv = 0x03#8
  rw [h]
  decide

theorem controllerStep_respOk {s : State} {p : Resp} {n : Nat} (hphase : s.hid.cmdPhase = .awaitingResponse)
    (hfits : responseFits s.hid.curIndex p = true) (hcount : countFits s.hid.curIndex n = true) :
    controllerStep (.respOk p n) s = some (s.responded p n) :=
  respOk_eq_some hphase hfits hcount

/-- A failed answer gives `Fail`. -/
theorem run_issue_failed {index : BitVec 6} {arg : Word} {k : Cont} {l : Locals} {silent : Bool} {s : State}
    {more : List Turn}
    (hf : s.faulted = none) (hd : s.disp = none) (hphase : s.hid.cmdPhase = .none) (hindex : respClass index ≠ none)
    (hclass : respClass index ≠ some .none) :
    run 12 (s.placed (issueTurns (.respFail silent) more) (some ⟨issueSteps arg index, issuePoint index k, l⟩))
      = .next (((s.commandOut index arg).answerFailed silent).decided more
          (resume k .fail { l with polled := ((s.commandOut index arg).answerFailed silent).regs.isr }
            ((s.commandOut index arg).answerFailed silent))) := by
  have flags : ((s.commandOut index arg).answerFailed silent).regs.isr.getLsbD 0 = true
      ∧ ((s.commandOut index arg).answerFailed silent).regs.isr &&& 0x0E#8 ≠ 0#8
      ∧ ((s.commandOut index arg).answerFailed silent).regs.isr &&& 0x0C#8 ≠ 0#8 := by
    rw [State.answerFailed_isr (s.commandOut_isr index arg)]
    cases silent <;> decide
  obtain ⟨hsent, hcame, herror⟩ := flags
  have failed := controllerStep_respFail silent (s.commandOut_cmdPhase arg hclass)
  rw [run_issue_answered hf hd hphase hindex hclass failed hsent hcame, afterResponse_fails _ herror]

/-- A response is loaded and looked at. -/
theorem run_issue_responded {index : BitVec 6} {arg : Word} {k : Cont} {l : Locals} {p : Resp} {n : Nat} {s : State}
    {more : List Turn}
    (hf : s.faulted = none) (hd : s.disp = none) (hphase : s.hid.cmdPhase = .none) (hindex : respClass index ≠ none)
    (hclass : respClass index ≠ some .none) (hfits : responseFits index p = true) (hcount : countFits index n = true) :
    run 12 (s.placed (issueTurns (.respOk p n) more) (some ⟨issueSteps arg index, issuePoint index k, l⟩))
      = .next (((s.commandOut index arg).responded p n).decided more
          (afterResponse index k { l with polled := 0x03#8 } ((s.commandOut index arg).responded p n))) := by
  have isr := State.responded_isr (s.commandOut_isr index arg) p n
  rw [run_issue_answered hf hd hphase hindex hclass (controllerStep_respOk (s.commandOut_cmdPhase arg hclass) hfits hcount)
    (by rw [isr]; decide) (by rw [isr]; decide), isr]

theorem continueAt_parsed (k : Cont) (l : Locals) (s : State) :
    continueAt (.parsed k) l s = resume k (parseR1 s.cfg l.payload) l s := rfl

/-- The card status is read and parsed (rules R168, R169). -/
theorem run_readPayload32 {k : Cont} {l : Locals} {s : State} {turns more : List Turn} (hturns : EngineTurns 4 turns more)
    (hf : s.faulted = none) (hd : s.disp = none) :
    run 4 (s.placed turns (some ⟨readPayload32, .parsed k, l⟩))
      = .next (s.decided more (resume k (parseR1 s.cfg s.cardStatus) { l with payload := s.cardStatus } s)) := by
  rw [← continueAt_parsed k { l with payload := s.cardStatus }]
  exact run_plan_placed (todo := readPayload32) (List.cons_ne_nil _ _) hf hd hturns (microSteps_readPayload32 l s)

/-- An R1 or R1b response gives the parse of its card status (rules R168, R169). -/
theorem run_issue_parsed {index : BitVec 6} {arg : Word} {k : Cont} {l : Locals} {p : BitVec 48} {n : Nat} {s : State}
    {more : List Turn}
    (hf : s.faulted = none) (hd : s.disp = none) (hphase : s.hid.cmdPhase = .none)
    (hclass : respClass index = some .r1 ∨ respClass index = some .r1b)
    (hfits : responseFits index (.short p) = true) (hcount : countFits index n = true) :
    run 16 (s.placed (issueTurns (.respOk (.short p) n) (List.replicate 4 Turn.engine ++ more))
        (some ⟨issueSteps arg index, issuePoint index k, l⟩))
      = .next (((s.commandOut index arg).responded (.short p) n).decided more
          (resume k (parseR1 s.cfg (p.extractLsb' 8 32)) { l with polled := 0x03#8, payload := p.extractLsb' 8 32 }
            ((s.commandOut index arg).responded (.short p) n))) := by
  have known : respClass index ≠ none ∧ respClass index ≠ some .none := by
    obtain h | h := hclass <;> rw [h] <;> decide
  obtain ⟨hindex, hne⟩ := known
  have noError : (0x03#8 : Byte) &&& 0x0C#8 = 0#8 := by decide
  have looked := run_issue_responded (arg := arg) (k := k) (l := l) (more := List.replicate 4 Turn.engine ++ more) hf hd
    hphase hindex hne hfits hcount
  rw [afterResponse_reads _ noError hclass] at looked
  have status : ((s.commandOut index arg).responded (.short p) n).cardStatus = p.extractLsb' 8 32 :=
    cardStatus_loadResponse (State.responded_rr _ _ _)
  have hf' : ((s.commandOut index arg).responded (.short p) n).faulted = none := by
    rw [State.responded_faulted, State.commandOut_faulted, hf]
  have hd' : ((s.commandOut index arg).responded (.short p) n).disp = none := by
    rw [State.responded_disp, State.commandOut_disp, hd]
  rw [show 16 = 12 + 4 from rfl, run_add looked, State.decided_run, run_readPayload32 (.given 4 more) hf' hd', status,
    State.responded_cfg, State.commandOut_cfg]

/-- An R2 or R3 response succeeds. -/
theorem run_issue_succeeded {index : BitVec 6} {arg : Word} {k : Cont} {l : Locals} {p : Resp} {n : Nat} {s : State}
    {more : List Turn}
    (hf : s.faulted = none) (hd : s.disp = none) (hphase : s.hid.cmdPhase = .none)
    (hclass : respClass index = some .r2 ∨ respClass index = some .r3) (hfits : responseFits index p = true) :
    run 12 (s.placed (issueTurns (.respOk p n) more) (some ⟨issueSteps arg index, issuePoint index k, l⟩))
      = .next (((s.commandOut index arg).responded p n).decided more
          (resume k .success { l with polled := 0x03#8 } ((s.commandOut index arg).responded p n))) := by
  have known : respClass index ≠ none ∧ respClass index ≠ some .none
      ∧ ¬ (respClass index = some .r1 ∨ respClass index = some .r1b) := by
    obtain h | h := hclass <;> rw [h] <;> decide
  obtain ⟨hindex, hne, hread⟩ := known
  have noError : (0x03#8 : Byte) &&& 0x0C#8 = 0#8 := by decide
  have hcount : countFits index n = true := by
    refine countFits_iff.2 fun hmulti => absurd (.inl ?_) hread
    obtain rfl | rfl := hmulti <;> rfl
  rw [run_issue_responded hf hd hphase hindex hne hfits hcount, afterResponse_succeeds _ noError hread]

/-- The internal operation returns the result. -/
theorem resume_issued (r : CmdResult) (l : Locals) (s : State) : resume .issued r l s = .finish (some (.cmdResult r)) := rfl

/-- Settles O34, by the class of the command and the answer it meets. -/
theorem issueCommandReturnsTheParsedStatus : Obligations.IssueCommandReturnsTheParsedStatus := by
  rintro s iv arg index ⟨hf, -, hd, -⟩ hphase hindex
  refine ⟨_, exec_issueCommand hindex iv arg s, fun hclass => ?none, fun hclass silent => ?failed,
    fun hclass p n hn hfits => ?parsed, fun hclass p n hfits => ?succeeded⟩
  case none =>
    have ran := run_issue_none (s := s.setResult none) (arg := arg) (k := .issued) (l := Locals.start) (more := []) hf hd
      hphase hclass
    rw [resume_issued] at ran
    refine ⟨_, ran, rfl, rfl, ?_, ?_⟩
    · rw [State.decided_hid, State.commandOut_cmdPhase_none _ arg hclass]
    · rw [State.decided_regs, State.commandOut_isr]
  case failed =>
    have ran := run_issue_failed (s := s.setResult none) (arg := arg) (k := .issued) (l := Locals.start) (silent := silent)
      (more := []) hf hd hphase hindex hclass
    rw [resume_issued] at ran
    refine ⟨_, ran, rfl, rfl, ?_, ?_⟩
    · rw [State.decided_hid, State.answerFailed_cmdPhase]
    · rw [State.decided_regs, State.answerFailed_isr (State.commandOut_isr _ index arg)]
  case parsed =>
    have hcount : countFits index n = true := countFits_iff.2 fun _ => hn
    have ran := run_issue_parsed (s := s.setResult none) (arg := arg) (k := .issued) (l := Locals.start) (more := []) hf hd
      hphase hclass hfits hcount
    rw [resume_issued] at ran
    refine ⟨_, ran, rfl, rfl, ?_, ?_⟩
    · rw [State.decided_hid, State.responded_cmdPhase]
    · rw [State.decided_regs, State.responded_isr (State.commandOut_isr _ index arg)]
  case succeeded =>
    have ran := run_issue_succeeded (s := s.setResult none) (arg := arg) (k := .issued) (l := Locals.start) (n := n)
      (more := []) hf hd hphase hclass hfits
    rw [resume_issued] at ran
    refine ⟨_, ran, rfl, rfl, ?_, ?_⟩
    · rw [State.decided_hid, State.responded_cmdPhase]
    · rw [State.decided_regs, State.responded_isr (State.commandOut_isr _ index arg)]

end Sys2Proof.Machine
end

section
/-! What follows a result of `issue_command` (41_command_interface.md rule R167), and the tests of initialization
(42_initialization.md rules R183 to R189) and of the blocking transfers (43_blocking_transfers.md rules R200 to R204): the
step in which the result becomes known is ENGINE's, and leaves it at the decision the pseudocode takes there. -/

namespace Sys2Proof.Machine

/-! ### A decision in the terms of the statements -/

theorem State.placed_of_agenda {s : State} {turns : List Turn} (ha : s.agenda = turns) (c : Option Ctx) :
    s.placed turns c = { s with engine := c } := by
  subst ha
  rfl

/-- With no turn to come, ENGINE goes on with a plan and nothing else changes. -/
theorem State.decided_run_of_agenda {s : State} {todo : List Micro} {p : Point} {l : Locals} (ha : s.agenda = []) :
    s.decided [] (.run todo p l) = { s with engine := some ⟨todo, p, l⟩ } :=
  State.placed_of_agenda ha _

/-- `issue_command` of a command that is answered, after some steps (rule R167). -/
theorem issueAfter_eq {index : BitVec 6} (hclass : respClass index ≠ some .none) (before : List Micro) (arg : Word)
    (k : Cont) (l : Locals) :
    issueAfter before arg index k l
      = .run (before ++ (clearAll ++ fiveWrites index arg ++ [.pollSent, .pollResponse])) (.responded index k) l := by
  rw [issueAfter, issueSteps_eq, issuePoint, if_neg hclass, if_neg hclass]

theorem State.Issues.of_decided {s : State} {index : BitVec 6} {arg : Word} {k : Cont} {l : Locals}
    {o : Host.Outcome State Fault Refusal} (ha : s.agenda = []) (hclass : respClass index ≠ some .none)
    (ho : o = .next (s.decided [] (issueAfter [] arg index k l))) : s.Issues index arg k o := by
  refine ⟨l, ?_⟩
  rw [ho, issueAfter_eq hclass, State.decided_run_of_agenda ha]
  rfl

theorem State.Exits.of_decided {s : State} {code : ErrCode} {l : Locals} {o : Host.Outcome State Fault Refusal}
    (ha : s.agenda = []) (ho : o = .next (s.decided [] (exitInit code l s))) : s.Exits code o := by
  refine ⟨l, ?_⟩
  rw [ho, exitInit, State.decided_run_of_agenda ha]
  rfl

theorem State.Returns.of_decided {s : State} {code : ErrCode} {o : Host.Outcome State Fault Refusal}
    (ha : s.agenda = []) (ho : o = .next (s.decided [] (.finish (some (.errCode code))))) : s.Returns code o := by
  rw [State.Returns, ho, State.decided, State.placed_of_agenda ha]
  rfl

/-- `read_block` that has failed: the two destinations of rules R201 and R189. -/
theorem State.ReadFails.of_decided {s : State} {dest : Dest} {code : ErrCode} {l : Locals}
    {o : Host.Outcome State Fault Refusal} (ha : s.agenda = []) (hcode : code ≠ .transferSuccess)
    (ho : o = .next (s.decided [] (readBlockEnds dest code l s))) : s.ReadFails dest code o := by
  cases dest with
  | caller buf => exact State.Returns.of_decided ha ho
  | scratch =>
    rw [readBlockEnds, if_neg hcode] at ho
    exact State.Exits.of_decided ha ho

/-! ### The step in which a result becomes known -/

theorem microStep_payloadByte (n : Fin 17) (l : Locals) (s : State) :
    microStep (.payloadByte n) l s = .next [] { l with payload := appendByte l.payload (s.regs.rr.get n) } s := by
  simp only [microStep, readByte, readReg_rr, lowByte_zext]

/-- The last planned step of an operation, one that changes no more than the locals, with no turn given: the test after
it is made. -/
theorem step_decides {s : State} {m : Micro} {p : Point} {l l' : Locals} (hf : s.faulted = none) (hd : s.disp = none)
    (ha : s.agenda = []) (he : s.engine = some ⟨[m], p, l⟩) (h : microStep m l s = .next [] l' s) :
    step s = .next (s.decided [] (continueAt p l' s)) :=
  step_last_planned hf hd he (.background 1 ha) h

/-- The ways a result becomes known (rules R167 to R169) all leave ENGINE at what follows that result; the words a block
read has gathered are kept. -/
theorem State.CommandEnds.step_eq {s : State} {k : Cont} {r : CmdResult} (h : s.CommandEnds k r) :
    ∃ c l, s.engine = some c ∧ l.scratch = c.locals.scratch ∧ step s = .next (s.decided [] (resume k r l s)) := by
  obtain ⟨hf, hd, ha, l, ⟨he, hsent, rfl⟩ | ⟨index, he, ⟨herror, rfl⟩ | ⟨hcame, hclass, rfl⟩⟩ | ⟨he, rfl⟩⟩ := h
  case inl => exact ⟨_, _, he, by rfl, step_decides hf hd ha he (microStep_pollSent hsent)⟩
  case inr.inl.inl =>
    have came : s.regs.isr &&& 0x0E#8 ≠ 0#8 := fun h => herror (by
      rw [show (0x0C#8 : Byte) = 0x0E#8 &&& 0x0C#8 by decide, ← BitVec.and_assoc, h, BitVec.zero_and])
    have decides := step_decides hf hd ha he (microStep_pollResponse came)
    rw [continueAt, afterResponse_fails s herror] at decides
    exact ⟨_, _, he, by rfl, decides⟩
  case inr.inl.inr =>
    have came : s.regs.isr &&& 0x0E#8 ≠ 0#8 := by rw [hcame]; decide
    have noError : s.regs.isr &&& 0x0C#8 = 0#8 := by
      rw [show (0x0C#8 : Byte) = 0x0E#8 &&& 0x0C#8 by decide, ← BitVec.and_assoc, hcame]
      decide
    have unread : ¬ (respClass index = some .r1 ∨ respClass index = some .r1b) := by
      obtain h | h := hclass <;> rw [h] <;> decide
    have decides := step_decides hf hd ha he (microStep_pollResponse came)
    rw [continueAt, afterResponse_succeeds (l := { l with polled := s.regs.isr }) s noError unread] at decides
    exact ⟨_, _, he, by rfl, decides⟩
  case inr.inr => exact ⟨_, _, he, by rfl, step_decides hf hd ha he (microStep_payloadByte 4 l s)⟩

section
variable {s : State} {k : Cont} {r : CmdResult}

theorem State.CommandEnds.agenda_eq (h : s.CommandEnds k r) : s.agenda = [] := by
  obtain ⟨-, -, ha, -⟩ := h
  exact ha

/-- After the result another command is sent. -/
theorem State.CommandEnds.issues (h : s.CommandEnds k r) {index : BitVec 6} {arg : Word} {k' : Cont}
    (hclass : respClass index ≠ some .none) (hnext : ∀ l, resume k r l s = issueAfter [] arg index k' l) :
    s.Issues index arg k' (step s) := by
  obtain ⟨-, l, -, -, hstep⟩ := h.step_eq
  exact .of_decided h.agenda_eq hclass (hnext l ▸ hstep)

/-- After the result `init` exits. -/
theorem State.CommandEnds.exits (h : s.CommandEnds k r) {code : ErrCode} (hnext : ∀ l, resume k r l s = exitInit code l s) :
    s.Exits code (step s) := by
  obtain ⟨-, l, -, -, hstep⟩ := h.step_eq
  exact .of_decided h.agenda_eq (hnext l ▸ hstep)

/-- After the result the operation is over. -/
theorem State.CommandEnds.returns (h : s.CommandEnds k r) {code : ErrCode}
    (hnext : ∀ l, resume k r l s = .finish (some (.errCode code))) : s.Returns code (step s) := by
  obtain ⟨-, l, -, -, hstep⟩ := h.step_eq
  exact .of_decided h.agenda_eq (hnext l ▸ hstep)

/-- After the result `read_block` has failed. -/
theorem State.CommandEnds.readFails (h : s.CommandEnds k r) {dest : Dest} {code : ErrCode} (hcode : code ≠ .transferSuccess)
    (hnext : ∀ l, resume k r l s = readBlockEnds dest code l s) : s.ReadFails dest code (step s) := by
  obtain ⟨-, l, -, -, hstep⟩ := h.step_eq
  exact .of_decided h.agenda_eq hcode (hnext l ▸ hstep)

/-- After the result the operation goes on with a plan. -/
theorem State.CommandEnds.plans (h : s.CommandEnds k r) {todo : List Micro} {p : Point}
    (hnext : ∀ l, resume k r l s = .run todo p l) : ∃ l, step s = .next { s with engine := some ⟨todo, p, l⟩ } := by
  obtain ⟨-, l, -, -, hstep⟩ := h.step_eq
  exact ⟨l, by rw [hstep, hnext, State.decided_run_of_agenda h.agenda_eq]⟩

end

/-! ### Initialization (42_initialization.md rules R183 to R189) -/

/-- The bus switch of rule R187, left out by a controller 1 bit wide. -/
theorem busSwitch_four {s : State} (l : Locals) (h : s.inst.busWidth = 4#4) :
    busSwitch l s = issueAfter [] (argSwitch s.cfg.extCsdBusWidth 1#8) 6#6 .initBusSwitch l := if_pos h

theorem busSwitch_eight {s : State} (l : Locals) (h : s.inst.busWidth = 8#4) :
    busSwitch l s = issueAfter [] (argSwitch s.cfg.extCsdBusWidth 2#8) 6#6 .initBusSwitch l := by
  rw [busSwitch, h]; rfl

theorem busSwitch_one {s : State} (l : Locals) (h : s.inst.busWidth = 1#4) : busSwitch l s = speedSwitch l s := by
  rw [busSwitch, h]; rfl

section
variable {l : Locals} {s : State}

/-- A round of the SEND_OP_COND loop at its end: DEVICE not powered up yet, powered up in another access mode, in sector
mode (rules R183, R184). -/
theorem afterOcr_unready (hready : ocrReady s.cfg l.payload = false) :
    afterOcr l s = issueAfter [] s.cfg.ocrArg 1#6 .initOpCond l := by
  rw [afterOcr, hready]
  rfl

theorem afterOcr_other (hready : ocrReady s.cfg l.payload = true) (hmode : ocrMode s.cfg l.payload ≠ s.cfg.ocrModeSector) :
    afterOcr l s = exitInit .opCondErr l s := by
  rw [afterOcr, hready]
  exact if_pos hmode

theorem afterOcr_sector (hready : ocrReady s.cfg l.payload = true) (hmode : ocrMode s.cfg l.payload = s.cfg.ocrModeSector) :
    afterOcr l s = issueAfter [] argZero 2#6 .initCid l := by
  rw [afterOcr, hready]
  exact if_neg (not_not_intro hmode)

/-- The `HS_TIMING` test (rule R189). -/
theorem afterCapture_zero (h : s.inst.hsTiming = 0#8) : afterCapture l s = exitInit .clkDivErr l s := if_pos h

theorem afterCapture_nonzero (h : s.inst.hsTiming ≠ 0#8) : afterCapture l s = exitInit .initSuccess l s := if_neg h

end

/-- A byte function that is that of the scratch buffer in the configuration's byte order (30_encoding.md rule R93). -/
theorem csdByte_eq {le : Bool} {x : List Word} {csd : Nat → Byte}
    (hle : le = true → ∀ k, csd k = (x.getD (k / 4) 0#32).extractLsb' (8 * (k % 4)) 8)
    (hbe : le = false → ∀ k, csd k = (x.getD (k / 4) 0#32).extractLsb' (24 - 8 * (k % 4)) 8) : csdByte le x = csd := by
  funext k
  cases le with
  | true => exact (hle rfl k).symm
  | false => exact (hbe rfl k).symm

/-- The fourth byte of the OCR is read: the loop's test is made. -/
theorem step_ocr {s : State} {l : Locals} (hf : s.faulted = none) (hd : s.disp = none) (ha : s.agenda = [])
    (he : s.engine = some ⟨[.payloadByte 4], .initOcr, l⟩) :
    ∃ l', l'.payload = l.payload.extractLsb' 0 24 ++ s.regs.rr.rr4 ∧ step s = .next (s.decided [] (afterOcr l' s)) :=
  ⟨_, rfl, step_decides hf hd ha he (microStep_payloadByte 4 l s)⟩

/-- The last byte of the Extended CSD is captured: the `HS_TIMING` test is made. -/
theorem step_captured {s : State} {l : Locals} {v : Byte} (hf : s.faulted = none) (hd : s.disp = none) (ha : s.agenda = [])
    (he : s.engine = some ⟨[.setInst (.hsTiming v)], .initCaptured, l⟩) :
    step s = .next ((s.setInst { s.inst with hsTiming := v }).decided []
      (afterCapture l (s.setInst { s.inst with hsTiming := v }))) :=
  step_last_planned hf hd he (.background 1 ha) rfl

/-- Settles O38: what follows each result, by the pseudocode; then the OCR, the bus width, the capture and its test. -/
theorem initFollowsItsStepsOrExitsWithTheirCode : Obligations.InitFollowsItsStepsOrExitsWithTheirCode := by
  intro s
  refine ⟨
    -- GO_IDLE_STATE, SEND_OP_COND and the OCR
    fun h => h.issues (by decide) fun l => rfl,
    fun r hr h => h.exits fun l => if_neg hr,
    fun h => h.plans fun l => rfl,
    fun r hr h => h.exits fun l => if_neg hr,
    ?ocr,
    -- ALL_SEND_CID, SET_RELATIVE_ADDR, SELECT_CARD
    fun h => h.issues (by decide) fun l => rfl,
    fun r hr h => h.exits fun l => if_neg hr,
    fun h => h.issues (by decide) fun l => rfl,
    fun r hr h => h.exits fun l => if_neg hr,
    fun r hr h => h.exits fun l => if_neg hr,
    ?width,
    -- the bus switch and its `wait_ready`
    fun h => h.exits fun l => rfl,
    fun r hr h => h.issues (by decide) fun l => if_neg hr,
    fun h => h.exits fun l => rfl,
    fun h => h.issues (by decide) fun l => rfl,
    -- the speed switch and its `wait_ready`
    fun h => h.exits fun l => rfl,
    fun r hr h => h.issues (by decide) fun l => if_neg hr,
    fun h => h.exits fun l => rfl,
    fun h => h.plans fun l => rfl,
    -- the Extended CSD
    ?capture, ?captured⟩
  case ocr =>
    rintro l o hf hd ha he rfl
    obtain ⟨l', payload, hstep⟩ := step_ocr hf hd ha he
    rw [← payload]
    exact ⟨fun hready => .of_decided ha (by decide) (afterOcr_unready hready ▸ hstep),
      fun hready hmode => .of_decided ha (afterOcr_other hready hmode ▸ hstep),
      fun hready hmode => .of_decided ha (by decide) (afterOcr_sector hready hmode ▸ hstep)⟩
  case width =>
    exact fun h => ⟨fun hw => h.issues (by decide) fun l => busSwitch_four l hw,
      fun hw => h.issues (by decide) fun l => busSwitch_eight l hw,
      fun hw => h.issues (by decide) fun l => busSwitch_one l hw⟩
  case capture =>
    intro c he h csd hle hbe
    obtain ⟨c', l, he', hscratch, hstep⟩ := h.step_eq
    obtain rfl : c = c' := Option.some.inj (he.symm.trans he')
    refine ⟨l, ?_⟩
    rw [hstep, ← csdByte_eq hle hbe, ← hscratch]
    exact congrArg Host.Outcome.next (State.decided_run_of_agenda h.agenda_eq)
  case captured =>
    rintro l v hf hd ha he u rfl
    have hstep := step_captured hf hd ha he
    exact ⟨fun hv => .of_decided ha (afterCapture_zero (s := s.setInst { s.inst with hsTiming := v }) hv ▸ hstep),
      fun hv => .of_decided ha (afterCapture_nonzero (s := s.setInst { s.inst with hsTiming := v }) hv ▸ hstep)⟩

/-! ### The blocking transfers (43_blocking_transfers.md rules R200 to R204) -/

/-- The view `SBCSR` shows the three low latches of `SBISR` (40_register_model.md rule R122). -/
theorem getLsbD_sbcsr (b : Byte) {i : Nat} (h : (0x07#8).getLsbD i = true) : (b &&& 0x07#8).getLsbD i = b.getLsbD i := by
  rw [BitVec.getLsbD_and, h, Bool.and_true]

/-- `DONE` clear: `poll_done` goes on (rule R203). -/
theorem microStep_pollDone_waits {l : Locals} {s : State} (h : s.regs.sbisr.getLsbD 0 = false) :
    microStep .pollDone l s = .next [.pollDone] { l with doneBits := s.regs.sbisr &&& 0x07#8 } s := by
  simp only [microStep, readByte, readReg, lowByte_zext, getLsbD_sbcsr _ (show (0x07#8).getLsbD 0 = true from rfl), h,
    Bool.false_eq_true, if_false]

/-- `DONE` set: it has ended. -/
theorem microStep_pollDone {l : Locals} {s : State} (h : s.regs.sbisr.getLsbD 0 = true) :
    microStep .pollDone l s = .next [] { l with doneBits := s.regs.sbisr &&& 0x07#8 } s := by
  simp only [microStep, readByte, readReg, lowByte_zext, getLsbD_sbcsr _ (show (0x07#8).getLsbD 0 = true from rfl), h,
    if_true]

theorem step_pollDone_waits {s : State} {p : Point} {l : Locals} (hf : s.faulted = none) (hd : s.disp = none)
    (ha : s.agenda = []) (he : s.engine = some ⟨[.pollDone], p, l⟩) (h : s.regs.sbisr.getLsbD 0 = false) :
    ∃ l', step s = .next { s with engine := some ⟨[.pollDone], p, l'⟩ } := by
  have waits := engineStep_running he (ctxStep_stay (rest := []) (p := p) (microStep_pollDone_waits (l := l) h))
  rw [← step_eq_engineStep hf ha hd] at waits
  exact ⟨_, waits⟩

/-- The error test at `DONE` (rules R200, R204), by the latches `SBCSR` has shown. -/
theorem afterWriteDone_cases {l : Locals} {b : Byte} (hb : l.doneBits = b &&& 0x07#8) (s : State) :
    (b.getLsbD 1 = true → afterWriteDone l s = .finish (some (.errCode .crcErr)))
    ∧ (b.getLsbD 1 = false → b.getLsbD 2 = true → afterWriteDone l s = .finish (some (.errCode .sbWriteFail)))
    ∧ (b.getLsbD 1 = false → b.getLsbD 2 = false → afterWriteDone l s = waitReadyAfter [] .writeAfter l s) := by
  have bit1 := getLsbD_sbcsr b (show (0x07#8).getLsbD 1 = true from rfl)
  have bit2 := getLsbD_sbcsr b (show (0x07#8).getLsbD 2 = true from rfl)
  refine ⟨fun h => ?_, fun h h' => ?_, fun h h' => ?_⟩ <;> rw [afterWriteDone, hb, bit1, h]
  · rfl
  · rw [bit2, h']; rfl
  · rw [bit2, h']; rfl

/-- The same of a read (rules R201, R204). -/
theorem afterReadDone_cases {l : Locals} {b : Byte} (hb : l.doneBits = b &&& 0x07#8) (dest : Dest) (s : State) :
    (b.getLsbD 1 = true → afterReadDone dest l s = readBlockEnds dest .crcErr l s)
    ∧ (b.getLsbD 1 = false → b.getLsbD 2 = true → afterReadDone dest l s = readBlockEnds dest .readCtrlErr l s)
    ∧ (b.getLsbD 1 = false → b.getLsbD 2 = false →
        afterReadDone dest l s = waitReadyAfter (drainBlock s.cfg dest) (.readAfter dest) l s) := by
  have bit1 := getLsbD_sbcsr b (show (0x07#8).getLsbD 1 = true from rfl)
  have bit2 := getLsbD_sbcsr b (show (0x07#8).getLsbD 2 = true from rfl)
  refine ⟨fun h => ?_, fun h h' => ?_, fun h h' => ?_⟩ <;> rw [afterReadDone, hb, bit1, h]
  · rfl
  · rw [bit2, h']; rfl
  · rw [bit2, h']; rfl

/-- The data command of a block read (rule R201). -/
theorem readCommand_sentinel {sector : Word} {s : State} (dest : Dest) (l : Locals) (h : sector = s.cfg.extCsdSentinel) :
    readCommand sector dest l s = issueAfter [] argZero 8#6 (.readCmd dest) l := if_pos h

theorem readCommand_sector {sector : Word} {s : State} (dest : Dest) (l : Locals) (h : sector ≠ s.cfg.extCsdSentinel) :
    readCommand sector dest l s = issueAfter [] sector 17#6 (.readCmd dest) l := if_neg h

/-- `DONE` has come to a write, or to a read: its error test is made. -/
theorem step_writeDone {s : State} {l : Locals} (hf : s.faulted = none) (hd : s.disp = none) (ha : s.agenda = [])
    (he : s.engine = some ⟨[.pollDone], .writeDone, l⟩) (hdone : s.regs.sbisr.getLsbD 0 = true) :
    step s = .next (s.decided [] (afterWriteDone { l with doneBits := s.regs.sbisr &&& 0x07#8 } s)) :=
  step_decides hf hd ha he (microStep_pollDone hdone)

theorem step_readDone {s : State} {l : Locals} {dest : Dest} (hf : s.faulted = none) (hd : s.disp = none)
    (ha : s.agenda = []) (he : s.engine = some ⟨[.pollDone], .readDone dest, l⟩)
    (hdone : s.regs.sbisr.getLsbD 0 = true) :
    step s = .next (s.decided [] (afterReadDone dest { l with doneBits := s.regs.sbisr &&& 0x07#8 } s)) :=
  step_decides hf hd ha he (microStep_pollDone hdone)

/-- Settles O44: what follows each result, by the pseudocode; then the wait for `DONE` and its tests, of a write and of a
read. -/
theorem blockingTransfersEndAsTheErrorTableSays : Obligations.BlockingTransfersEndAsTheErrorTableSays := by
  intro s buf sector dest
  refine ⟨
    -- `wait_ready` again; before a write, its data command, the words, and after it
    fun w h => h.issues (by decide) fun l => rfl,
    fun h => h.returns fun l => rfl,
    fun h => h.issues (by decide) fun l => rfl,
    fun r hr h => h.returns fun l => if_neg hr,
    fun h => h.plans fun l => rfl,
    fun h => h.returns fun l => rfl,
    fun h => h.returns fun l => rfl,
    -- before a read, its data command, and after it
    fun h => h.readFails (by decide) fun l => rfl,
    fun h => ⟨fun hs => h.issues (by decide) fun l => readCommand_sentinel dest l hs,
      fun hs => h.issues (by decide) fun l => readCommand_sector dest l hs⟩,
    fun r hr h => h.readFails (by decide) fun l => if_neg hr,
    fun h => h.plans fun l => rfl,
    fun h => h.readFails (by decide) fun l => rfl,
    fun h => h.returns fun l => rfl,
    -- `poll_done`
    fun l hf hd ha => ⟨fun he => ⟨step_pollDone_waits hf hd ha he, ?write⟩,
      fun he => ⟨step_pollDone_waits hf hd ha he, ?read⟩⟩⟩
  case write =>
    have decides := step_writeDone hf hd ha he
    obtain ⟨crc, ctrl, good⟩ :=
      afterWriteDone_cases (l := { l with doneBits := s.regs.sbisr &&& 0x07#8 }) (b := s.regs.sbisr) rfl s
    exact ⟨fun h h1 => .of_decided ha (crc h1 ▸ decides h), fun h h1 h2 => .of_decided ha (ctrl h1 h2 ▸ decides h),
      fun h h1 h2 => .of_decided ha (by decide) (good h1 h2 ▸ decides h)⟩
  case read =>
    have decides := step_readDone hf hd ha he
    obtain ⟨crc, ctrl, good⟩ :=
      afterReadDone_cases (l := { l with doneBits := s.regs.sbisr &&& 0x07#8 }) (b := s.regs.sbisr) rfl dest s
    refine ⟨fun h h1 => .of_decided ha (by decide) (crc h1 ▸ decides h),
      fun h h1 h2 => .of_decided ha (by decide) (ctrl h1 h2 ▸ decides h), fun h h1 h2 =>
        ⟨{ l with doneBits := s.regs.sbisr &&& 0x07#8 }, ?_⟩⟩
    have hstep := good h1 h2 ▸ decides h
    rw [waitReadyAfter, issueAfter_eq (by decide), State.decided_run_of_agenda ha] at hstep
    rw [List.append_assoc, List.append_assoc, ← List.append_assoc clearAll]
    exact hstep

end Sys2Proof.Machine
end

section
/-! Initialization at its two ends (42_initialization.md rules R180 to R182, R190): the request, the controller programmed and
its version tested; and the exit, after which `status` gives the code of the exit (44_nonblocking_transfers.md rule R221). -/

namespace Sys2Proof.Machine

/-! ### The exit (rule R190) -/

/-- After `exit(code)`. -/
def State.exited (s : State) (code : ErrCode) : State :=
  { s.latchesCleared with
    st := ⟨.idle, 0, 0, 0, maxTicks s.cfg, code, code⟩
    initialised := (code == .initSuccess)
    initExited := true }

/-- The eleven steps of `exit(code)`. -/
def exitSteps (c : Cfg) (code : ErrCode) : List Micro :=
  clearAll ++
    [.setSt (.state .idle), .setSt (.errState code), .setSt (.tempErr code), .setSt (.blocks 0), .setSt (.sector 0),
     .setSt (.startTick 0), .setSt (.timeoutTicks (maxTicks c)), .setInitialised (code == .initSuccess)]

theorem exitInit_eq (code : ErrCode) (l : Locals) (s : State) :
    exitInit code l s = .run (exitSteps s.cfg code) (.ret (some (.errCode code))) l := rfl

theorem microSteps_exitSteps (code : ErrCode) (l : Locals) (s : State) :
    microSteps (exitSteps s.cfg code) l s = some (l, s.exited code) := by
  rw [exitSteps, microSteps_append, microSteps_clearAll]
  simp only [Option.bind_some, microSteps, microStep, updateSt, State.setSt, State.setInitialised, State.setInitExited,
    State.exited]

/-- `exit(code)` carried out: the operation is over and hands `code` over. -/
theorem run_exitInit {code : ErrCode} {l : Locals} {s : State} {turns after : List Turn} (hf : s.faulted = none)
    (hd : s.disp = none) (hturns : EngineTurns 11 turns after) :
    run 11 (s.decided turns (exitInit code l s))
      = .next ((s.exited code).decided after (.finish (some (.errCode code)))) :=
  run_plan_placed (todo := exitSteps s.cfg code) (List.cons_ne_nil _ _) hf hd hturns (microSteps_exitSteps code l s)

/-- `status` never times out on the budget the exit leaves: no elapsed count exceeds it. -/
theorem statusTimedOut_exited (now : Word) {s : State} (h : s.st.timeoutTicks = maxTicks s.cfg) :
    statusTimedOut now s = false := by
  have small : elapsed s.cfg (tickOf s.cfg now) s.st.startTick ≤ maxTicks s.cfg :=
    Nat.le_sub_one_of_lt (Nat.mod_lt _ (Nat.two_pow_pos _))
  rw [statusTimedOut, h, decide_eq_false (Nat.not_lt.2 small), Bool.and_false]

/-- `status` within the budget gives the sticky code at once (44_nonblocking_transfers.md rule R221). -/
theorem exec_status_in_time {now : Word} {s : State} (hexited : s.initExited = true)
    (htime : statusTimedOut now s = false) :
    exec (.status true now) s = .next (s.setResult (some (.errCode s.st.errState))) := by
  show execStatus true now s = _
  rw [execStatus, hexited, htime]
  rfl

/-- Settles O39: the exit is carried out, and then no elapsed count exceeds its budget. -/
theorem initExitThenStatusReturnsTheCode : Obligations.InitExitThenStatusReturnsTheCode := by
  intro s l result hf hd ha he
  refine ⟨_, ?_, rfl, fun now => exec_status_in_time rfl (statusTimedOut_exited now rfl)⟩
  have hs : s = s.decided [] (exitInit result l s) := (State.placed_self ha he).symm
  rw [hs, run_exitInit hf hd (.background 11 rfl), ← hs]
  exact congrArg (fun turns => Host.Outcome.next ((s.exited result).decided turns (.finish _))) ha.symm

/-! ### The request, the programming and the version (rules R180 to R182) -/

/-- After step 1 and the reads of step 2. -/
def State.programmed (s : State) (initClkDiv : Byte) : State :=
  { s with
    inst := { s.inst with
      base := s.cfg.base, clkDiv := initClkDiv, hwMajor := s.cfg.mjvrValue, hwMinor := s.cfg.mivrValue }
    regs := { s.regs with datato := s.cfg.dataTimeout, clkr := initClkDiv, clkoe := true } }

theorem microSteps_initSteps (initClkDiv : Byte) (l : Locals) (s : State) :
    microSteps (initSteps s.cfg initClkDiv) l s = some ({ l with version := s.cfg.vrValue }, s.programmed initClkDiv) := by
  simp only [initSteps, microSteps, microStep, writeReg, readByte, readReg, lowByte_zext]
  rfl

/-- The eight steps up to the version test, with the test. -/
theorem run_initSteps {initClkDiv : Byte} {l : Locals} {s : State} {turns after : List Turn} (hf : s.faulted = none)
    (hd : s.disp = none) (hturns : EngineTurns 8 turns after) :
    run 8 (s.decided turns (.run (initSteps s.cfg initClkDiv) .initVersion l))
      = .next ((s.programmed initClkDiv).decided after
          (afterVersion { l with version := s.cfg.vrValue } (s.programmed initClkDiv))) :=
  run_plan_placed (List.cons_ne_nil _ _) hf hd hturns (microSteps_initSteps initClkDiv l s)

theorem versionRecognised_iff (c : Cfg) (v : Byte) :
    versionRecognised c v = true ↔ v.extractLsb' 4 4 ∈ c.supportedRev ∧ v.extractLsb' 2 2 ≠ 3#2 := by
  rw [versionRecognised, Bool.and_eq_true, List.contains_iff_mem, bne_iff_ne]

/-- The geometry the version register names (rule R182). -/
def geometrySteps (c : Cfg) (v : Byte) : List Micro :=
  [.setInst (.fifoDepthWords (fifoDepthWords c (v.extractLsb' 0 2))), .setInst (.busWidth (dataWidth v))]

/-- After the geometry is captured. -/
def State.measured (s : State) (v : Byte) : State :=
  s.setInst { s.inst with
    fifoDepthWords := fifoDepthWords s.cfg (v.extractLsb' 0 2)
    busWidth := dataWidth v }

theorem microSteps_geometrySteps (v : Byte) (l : Locals) (s : State) :
    microSteps (geometrySteps s.cfg v) l s = some (l, s.measured v) := rfl

/-- The depth and the width of each code (10_state.md rule R28, 00_scope.md rule R5). -/
theorem geometry_of_codes (c : Cfg) (v : Byte) :
    (v.extractLsb' 0 2 = 0#2 → fifoDepthWords c (v.extractLsb' 0 2) = c.fifoDepth0)
    ∧ (v.extractLsb' 0 2 = 1#2 → fifoDepthWords c (v.extractLsb' 0 2) = c.fifoDepth1)
    ∧ (v.extractLsb' 0 2 = 2#2 → fifoDepthWords c (v.extractLsb' 0 2) = c.fifoDepth2)
    ∧ (v.extractLsb' 0 2 = 3#2 → fifoDepthWords c (v.extractLsb' 0 2) = c.fifoDepth3)
    ∧ (v.extractLsb' 2 2 = 0#2 → dataWidth v = 1#4)
    ∧ (v.extractLsb' 2 2 = 1#2 → dataWidth v = 4#4)
    ∧ (v.extractLsb' 2 2 = 2#2 → dataWidth v = 8#4) := by
  refine ⟨fun h => ?_, fun h => ?_, fun h => ?_, fun h => ?_, fun h => ?_, fun h => ?_, fun h => ?_⟩
  iterate 4 rw [h]; rfl
  all_goals rw [dataWidth, h]; rfl

/-- The steps before an `issue_command`, taken on ENGINE's turns. -/
theorem run_before_issue {before : List Micro} {index : BitVec 6} {arg : Word} {k : Cont} {l l' : Locals} {s t : State}
    {turns after : List Turn} (hf : s.faulted = none) (hd : s.disp = none) (hturns : EngineTurns before.length turns after)
    (h : microSteps before l s = some (l', t)) :
    run before.length (s.decided turns (issueAfter before arg index k l))
      = .next (t.decided after (issueAfter [] arg index k l')) :=
  run_planned (s := s.decided turns _) (t := t.placed turns _) hf hd rfl hturns (microSteps_placed h turns _)

/-- A controller of a known revision: the geometry is captured and GO_IDLE_STATE begun (rules R182, R183). -/
theorem run_init_recognised {initClkDiv : Byte} {l : Locals} {s : State} {turns after : List Turn} (hf : s.faulted = none)
    (hd : s.disp = none) (hversion : versionRecognised s.cfg s.cfg.vrValue = true) (hturns : EngineTurns 10 turns after) :
    run 10 (s.decided turns (.run (initSteps s.cfg initClkDiv) .initVersion l))
      = .next (((s.programmed initClkDiv).measured s.cfg.vrValue).decided after
          (issueAfter [] argZero 0#6 .initGoIdle { l with version := s.cfg.vrValue })) := by
  obtain ⟨mid, hfirst, hsecond⟩ := EngineTurns.split (m := 8) (n := 2) hturns
  have test : afterVersion { l with version := s.cfg.vrValue } (s.programmed initClkDiv)
      = issueAfter (geometrySteps s.cfg s.cfg.vrValue) argZero 0#6 .initGoIdle { l with version := s.cfg.vrValue } :=
    if_pos hversion
  rw [show 10 = 8 + 2 from rfl, run_add (run_initSteps hf hd hfirst), test]
  exact run_before_issue (before := geometrySteps s.cfg s.cfg.vrValue) (s := s.programmed initClkDiv) hf hd hsecond
    (microSteps_geometrySteps _ _ _)

/-- One of another: `init` exits (rule R182). -/
theorem run_init_unsupported {initClkDiv : Byte} {l : Locals} {s : State} {turns after : List Turn} (hf : s.faulted = none)
    (hd : s.disp = none) (hversion : ¬ versionRecognised s.cfg s.cfg.vrValue = true) (hturns : EngineTurns 19 turns after) :
    run 19 (s.decided turns (.run (initSteps s.cfg initClkDiv) .initVersion l))
      = .next (((s.programmed initClkDiv).exited .unsupportedHwRevision).decided after
          (.finish (some (.errCode .unsupportedHwRevision)))) := by
  obtain ⟨mid, hfirst, hsecond⟩ := EngineTurns.split (m := 8) (n := 11) hturns
  have test : afterVersion { l with version := s.cfg.vrValue } (s.programmed initClkDiv)
      = exitInit .unsupportedHwRevision { l with version := s.cfg.vrValue } (s.programmed initClkDiv) := if_neg hversion
  rw [show 19 = 8 + 11 from rfl, run_add (run_initSteps hf hd hfirst), test]
  exact run_exitInit (s := s.programmed initClkDiv) hf hd hsecond

theorem exec_init {s : State} (h : s.initialised = false) (initClkDiv clkDiv : Byte) :
    exec (.init true initClkDiv clkDiv) s
      = startOperation (initSteps s.cfg initClkDiv) .initVersion (s.setPar ⟨initClkDiv, clkDiv⟩) := by
  show execInit true initClkDiv clkDiv s = _
  rw [execInit, h]
  rfl

theorem exec_init_again {s : State} (h : s.initialised = true) (initClkDiv clkDiv : Byte) :
    exec (.init true initClkDiv clkDiv) s = .refused .alreadyInitialised := by
  show execInit true initClkDiv clkDiv s = _
  rw [execInit, h]
  rfl

/-- Settles O37: the request, and the two outcomes of the version test. -/
theorem initProgramsTheControllerAndReadsTheVersion : Obligations.InitProgramsTheControllerAndReadsTheVersion := by
  refine fun s initClkDiv clkDiv => ⟨fun h => exec_init_again h _ _, fun hinit ⟨hf, he, hd, ha⟩ =>
    ⟨_, exec_init hinit _ _, rfl, fun hversion => ?recognised, fun hversion => ?unsupported⟩⟩
  all_goals rw [← versionRecognised_iff] at hversion
  case recognised =>
    obtain ⟨depth0, depth1, depth2, depth3, width1, width4, width8⟩ := geometry_of_codes s.cfg s.cfg.vrValue
    have ran := run_init_recognised (initClkDiv := initClkDiv) (l := Locals.start)
      (s := (s.setPar ⟨initClkDiv, clkDiv⟩).setResult none) hf hd hversion (.background 10 ha)
    refine ⟨_, _, _, _, ran, rfl, ?_, depth0, depth1, depth2, depth3, width1, width4, width8, rfl, rfl⟩
    rw [← ha]
    rfl
  case unsupported =>
    have ran := run_init_unsupported (initClkDiv := initClkDiv) (l := Locals.start)
      (s := (s.setPar ⟨initClkDiv, clkDiv⟩).setResult none) hf hd hversion (.background 19 ha)
    refine ran.trans ?_
    cases s
    cases hinit
    cases ha
    cases he
    rfl

end Sys2Proof.Machine
end

section
/-! An operation carried from one decision to the next by the turns of a schedule (20_memory.md rule R71, log entry 3): steps
of ENGINE, and commands that CONTROLLER answers between its waits (41_command_interface.md rules R165 to R169). -/

namespace Sys2Proof.Machine

/-! ### From one decision to the next -/

/-- ENGINE at decision `d` in `s` comes by these turns to decision `d'` in `t`, whatever turns follow. -/
def Reaches (s : State) (d : Decision) (turns : List Turn) (t : State) (d' : Decision) : Prop :=
  ∀ after, run turns.length (s.decided (turns ++ after) d) = .next (t.decided after d')

theorem Reaches.refl (s : State) (d : Decision) : Reaches s d [] s d := fun _ => rfl

theorem Reaches.trans {s t u : State} {d d' d'' : Decision} {a b : List Turn} (h : Reaches s d a t d')
    (h' : Reaches t d' b u d'') : Reaches s d (a ++ b) u d'' := fun after => by
  rw [List.length_append, List.append_assoc, run_add (h _), h']

/-- What `n` turns of ENGINE do, whether they are given or not, its given turns do. -/
theorem Reaches.of_engineTurns {n : Nat} {s t : State} {d d' : Decision}
    (h : ∀ turns after, EngineTurns n turns after → run n (s.decided turns d) = .next (t.decided after d')) :
    Reaches s d (List.replicate n .engine) t d' := fun after => by
  rw [List.length_replicate]
  exact h _ _ (.given n after)

/-- A plan carried out. -/
theorem reaches_plan {todo : List Micro} {p : Point} {l l' : Locals} {s t : State} (hne : todo ≠ []) (hf : s.faulted = none)
    (hd : s.disp = none) (h : microSteps todo l s = some (l', t)) :
    Reaches s (.run todo p l) (List.replicate todo.length .engine) t (continueAt p l' t) :=
  .of_engineTurns fun _ _ hturns => run_plan_placed hne hf hd hturns h

/-- The steps before an `issue_command`. -/
theorem reaches_issue {before : List Micro} {index : BitVec 6} {arg : Word} {k : Cont} {l l' : Locals} {s t : State}
    (hf : s.faulted = none) (hd : s.disp = none) (h : microSteps before l s = some (l', t)) :
    Reaches s (issueAfter before arg index k l) (List.replicate before.length .engine) t (issueAfter [] arg index k l') :=
  .of_engineTurns fun _ _ hturns => run_before_issue hf hd hturns h

/-- An event that is enabled. -/
theorem reaches_event {e : Event} {todo : List Micro} {p : Point} {l : Locals} {s t : State} (hf : s.faulted = none)
    (h : controllerStep e s = some t) : Reaches s (.run todo p l) [.event e] t (.run todo p l) := fun after =>
  run_next (n := 0) (step_event_turn (s := s.placed (.event e :: after) _) hf rfl (controllerStep_placed h after _))

/-! ### The command interface between two commands -/

/-- No fault, no delivery and no command open: the next command can be sent. -/
structure State.Free (s : State) : Prop where
  faulted : s.faulted = none
  disp : s.disp = none
  cmdPhase : s.hid.cmdPhase = .none

/-- From `s` to `t` commands have been exchanged with DEVICE, and no more than that: the engine registers, caller memory, the
clock, the data timeout and the words received are as before. -/
structure Exchanged (s t : State) : Prop where
  free : t.Free
  frame : t = { s with regs := t.regs, hid := t.hid }
  clkr : t.regs.clkr = s.regs.clkr
  clkoe : t.regs.clkoe = s.regs.clkoe
  datato : t.regs.datato = s.regs.datato
  rfifo : t.hid.rfifo = s.hid.rfifo

section
variable {s t u : State}

theorem Exchanged.refl (hs : s.Free) : Exchanged s s := ⟨hs, rfl, rfl, rfl, rfl, rfl⟩

theorem Exchanged.trans (h : Exchanged s t) (h' : Exchanged t u) : Exchanged s u where
  free := h'.free
  frame := by rw [h'.frame, h.frame]
  clkr := h'.clkr.trans h.clkr
  clkoe := h'.clkoe.trans h.clkoe
  datato := h'.datato.trans h.datato
  rfifo := h'.rfifo.trans h.rfifo

theorem Exchanged.cfg (h : Exchanged s t) : t.cfg = s.cfg := by rw [h.frame]
theorem Exchanged.inst (h : Exchanged s t) : t.inst = s.inst := by rw [h.frame]
theorem Exchanged.par (h : Exchanged s t) : t.par = s.par := by rw [h.frame]
theorem Exchanged.mem (h : Exchanged s t) : t.mem = s.mem := by rw [h.frame]

end

/-- A command of class `none` is out. -/
theorem exchanged_commandOut {s : State} {index : BitVec 6} (hs : s.Free) (arg : Word)
    (hclass : respClass index = some .none) : Exchanged s (s.commandOut index arg) :=
  ⟨⟨hs.faulted, hs.disp, s.commandOut_cmdPhase_none arg hclass⟩, rfl, rfl, rfl, rfl, rfl⟩

/-- After a command and the response to it (40_register_model.md rule R129). -/
def State.answered (s : State) (index : BitVec 6) (arg : Word) (p : Resp) : State := (s.commandOut index arg).responded p 1

/-- The hidden state then: the command is over, and its data phase, if it has one, open. -/
theorem State.answered_hid (s : State) (index : BitVec 6) (arg : Word) (p : Resp) :
    (s.answered index arg p).hid
      = startDataPhase s.cfg { s.hid with cmdPhase := .none, curIndex := index, curArg := arg } 1 := rfl

theorem State.answered_frame (s : State) (index : BitVec 6) (arg : Word) (p : Resp) :
    s.answered index arg p = { s with regs := (s.answered index arg p).regs, hid := (s.answered index arg p).hid } := by
  simp only [State.answered, State.responded, State.commandOut, State.commandSent, State.latchesCleared, raiseCommand,
    State.setRegs, State.setHid]

theorem exchanged_answered {s : State} (hs : s.Free) (index : BitVec 6) (arg : Word) (p : Resp) :
    Exchanged s (s.answered index arg p) where
  free := by
    refine ⟨?_, ?_, State.responded_cmdPhase (s.commandOut index arg) p 1⟩ <;> rw [State.answered_frame]
    · exact hs.faulted
    · exact hs.disp
  frame := s.answered_frame index arg p
  clkr := rfl
  clkoe := rfl
  datato := rfl
  rfifo := by rw [State.answered_hid, startDataPhase_frame]

/-! ### Commands answered -/

/-- DEVICE's answer to the command: an R1 response (30_encoding.md rule R88) with a card status that is ready and without
error (41_command_interface.md rule R169). -/
structure AnswersReady (c : Cfg) (index : BitVec 6) (p : BitVec 48) : Prop where
  fits : responseFits index (.short p) = true
  ready : parseR1 c (p.extractLsb' 8 32) = .success

section
variable {index : BitVec 6} {arg : Word} {k : Cont} {l : Locals} {s : State}

/-- A class `none` command. -/
theorem reaches_sent (hs : s.Free) (hclass : respClass index = some .none) :
    ∃ l', Reaches s (issueAfter [] arg index k l) (List.replicate 8 .engine ++ [.event .cmdSent, .engine])
        (s.commandOut index arg) (resume k .success l' (s.commandOut index arg))
      ∧ l'.scratch = l.scratch :=
  ⟨_, fun after => run_issue_none (more := after) hs.faulted hs.disp hs.cmdPhase hclass, rfl⟩

/-- A command answered by an R1 or R1b response that is ready. -/
theorem reaches_ready {p : BitVec 48} (hs : s.Free) (hclass : respClass index = some .r1 ∨ respClass index = some .r1b)
    (hp : AnswersReady s.cfg index p) :
    ∃ l', Reaches s (issueAfter [] arg index k l) (answeredCommand (.short p) 6) (s.answered index arg (.short p))
        (resume k .success l' (s.answered index arg (.short p)))
      ∧ l'.scratch = l.scratch := by
  refine ⟨{ l with polled := 0x03#8, payload := p.extractLsb' 8 32 }, fun after => ?_, rfl⟩
  have parsed := run_issue_parsed (n := 1) (arg := arg) (k := k) (l := l) (more := after) hs.faulted hs.disp hs.cmdPhase
    hclass hp.fits (countFits_iff.2 fun _ => Nat.le_refl 1)
  rw [hp.ready] at parsed
  exact parsed

/-- A command answered by an R2 or R3 response. -/
theorem reaches_succeeded {p : Resp} (hs : s.Free) (hclass : respClass index = some .r2 ∨ respClass index = some .r3)
    (hfits : responseFits index p = true) :
    ∃ l', Reaches s (issueAfter [] arg index k l) (answeredCommand p 2) (s.answered index arg p)
        (resume k .success l' (s.answered index arg p))
      ∧ l'.scratch = l.scratch :=
  ⟨_, fun after => run_issue_succeeded (n := 1) (more := after) hs.faulted hs.disp hs.cmdPhase hclass hfits, rfl⟩

end

/-! ### Commands one after another -/

/-- From decision `d` in `s` these turns exchange commands with DEVICE and come to the decision `next` makes; `scratch` are
the words a block read has gathered by then. -/
def ExchangesTo (s : State) (d : Decision) (turns : List Turn) (scratch : List Word)
    (next : Locals → State → Decision) : Prop :=
  ∃ t l, Reaches s d turns t (next l t) ∧ Exchanged s t ∧ l.scratch = scratch

/-- Nothing is exchanged. -/
theorem ExchangesTo.none {s : State} {l : Locals} {next : Locals → State → Decision} (hs : s.Free) :
    ExchangesTo s (next l s) [] l.scratch next :=
  ⟨s, l, .refl _ _, .refl hs, rfl⟩

/-- One exchange after another. -/
theorem ExchangesTo.andThen {s : State} {d : Decision} {a b : List Turn} {x y : List Word}
    {next next' : Locals → State → Decision} (h : ExchangesTo s d a x next)
    (h' : ∀ t l, Exchanged s t → l.scratch = x → ExchangesTo t (next l t) b y next') :
    ExchangesTo s d (a ++ b) y next' := by
  obtain ⟨t, l, reached, kept, hx⟩ := h
  obtain ⟨u, l', reached', kept', hy⟩ := h' t l kept hx
  exact ⟨u, l', reached.trans reached', kept.trans kept', hy⟩

section
variable {index : BitVec 6} {arg : Word} {k : Cont} {l : Locals} {x : List Word} {s : State}

theorem exchangesTo_ready {p : BitVec 48} (hs : s.Free) (hclass : respClass index = some .r1 ∨ respClass index = some .r1b)
    (hp : AnswersReady s.cfg index p) (hl : l.scratch = x) :
    ExchangesTo s (issueAfter [] arg index k l) (answeredCommand (.short p) 6) x (resume k .success) := by
  obtain ⟨l', reached, hscratch⟩ := reaches_ready hs hclass hp
  exact ⟨_, l', reached, exchanged_answered hs _ _ _, hscratch.trans hl⟩

theorem exchangesTo_succeeded {p : Resp} (hs : s.Free) (hclass : respClass index = some .r2 ∨ respClass index = some .r3)
    (hfits : responseFits index p = true) (hl : l.scratch = x) :
    ExchangesTo s (issueAfter [] arg index k l) (answeredCommand p 2) x (resume k .success) := by
  obtain ⟨l', reached, hscratch⟩ := reaches_succeeded hs hclass hfits
  exact ⟨_, l', reached, exchanged_answered hs _ _ _, hscratch.trans hl⟩

end

end Sys2Proof.Machine
end

section
/-! The Extended CSD read into the scratch buffer (42_initialization.md rule R189, 43_blocking_transfers.md rules R201, R203):
the data command, the words CONTROLLER brings (40_register_model.md rules R132, R133), and their move out of the read FIFO. -/

namespace Sys2Proof.Machine

/-! ### The words come in -/

/-- These words have come in behind those in the read FIFO (rule R132). -/
def State.received (s : State) (ws : List Word) : State :=
  s.setHid { s.hid with rfifo := s.hid.rfifo ++ ws, wordsLeft := s.hid.wordsLeft - ws.length }

theorem controllerStep_wordIn {s : State} (w : Word) (hphase : s.hid.dataPhase = .read) (hleft : 0 < s.hid.wordsLeft)
    (hroom : s.hid.rfifo.length < fifoDepth s.cfg) : controllerStep (.wordIn w) s = some (s.received [w]) :=
  if_pos ⟨hphase, hleft, hroom⟩

theorem State.received_received (s : State) (a b : List Word) : (s.received a).received b = s.received (a ++ b) := by
  simp only [State.received, State.setHid, List.append_assoc, List.length_append, Nat.sub_sub]

theorem State.received_nil (s : State) : s.received [] = s := by
  simp only [State.received, List.append_nil, List.length_nil, Nat.sub_zero]
  rfl

/-- The words of an open read phase, one event each. -/
theorem reaches_received {ws : List Word} {todo : List Micro} {p : Point} {l : Locals} {s : State} (hf : s.faulted = none)
    (hphase : s.hid.dataPhase = .read) (hleft : ws.length ≤ s.hid.wordsLeft)
    (hroom : s.hid.rfifo.length + ws.length ≤ fifoDepth s.cfg) :
    Reaches s (.run todo p l) (ws.map fun w => .event (.wordIn w)) (s.received ws) (.run todo p l) := by
  induction ws generalizing s with
  | nil => rw [State.received_nil]; exact .refl s _
  | cons w ws ih =>
    rw [List.length_cons] at hleft hroom
    have first := reaches_event (todo := todo) (p := p) (l := l) hf
      (controllerStep_wordIn w hphase (by omega) (by omega))
    have others := ih (s := s.received [w]) hf hphase
      (by simp only [State.received, State.setHid_hid, List.length_singleton]; omega)
      (by simp only [State.received, State.setHid_hid, State.setHid_cfg, List.length_append, List.length_singleton]; omega)
    rw [State.received_received] at others
    exact first.trans others

/-- The block is over without an error (rule R133). -/
def State.blockDone (s : State) : State :=
  raiseBlock .sb maskDone (s.setHid { s.hid with dataPhase := .none, wordsLeft := 0 })

theorem controllerStep_dataDone {s : State} (hphase : s.hid.dataPhase ≠ .none) (hleft : s.hid.wordsLeft = 0)
    (htier : s.hid.dataTier = .sb) : controllerStep (.dataDone false false) s = some s.blockDone := by
  refine (if_pos ⟨hphase, .inl hleft⟩).trans ?_
  rw [htier]
  rfl

/-! ### The words move out -/

theorem microStep_drain_scratch {w : Word} {rest : List Word} {l : Locals} {s : State} (i : Nat)
    (h : s.hid.rfifo = w :: rest) :
    microStep (.drain .scratch i) l s
      = .next [] { l with scratch := l.scratch ++ [w] } (s.setHid { s.hid with rfifo := rest }) := by
  simp only [microStep, readReg, readRdr, h]

/-- As many moves as there are words bring them all to the scratch buffer, in order. -/
theorem microSteps_drain_scratch {is : List Nat} {ws : List Word} {l : Locals} {s : State}
    (hlen : ws.length = is.length) (h : s.hid.rfifo = ws) :
    microSteps (is.map (.drain .scratch)) l s
      = some ({ l with scratch := l.scratch ++ ws }, s.setHid { s.hid with rfifo := [] }) := by
  induction is generalizing ws l s with
  | nil =>
    obtain rfl := List.length_eq_zero_iff.1 hlen
    rw [List.append_nil, ← h]
    rfl
  | cons i is ih =>
    obtain ⟨w, ws, rfl⟩ := List.exists_cons_of_length_eq_add_one hlen
    rw [List.map_cons, microSteps_cons (microStep_drain_scratch i h), ih (Nat.succ.inj hlen) rfl, List.append_assoc]
    rfl

/-- The moves of a block, and SEND_STATUS after them. -/
theorem reaches_drained {ws : List Word} {arg : Word} {index : BitVec 6} {k : Cont} {l : Locals} {s : State} (hs : s.Free)
    (hlen : ws.length = s.cfg.blockWords) (hfifo : s.hid.rfifo = ws) :
    Reaches s (issueAfter (drainBlock s.cfg .scratch) arg index k l) (List.replicate s.cfg.blockWords .engine)
      (s.setHid { s.hid with rfifo := [] }) (issueAfter [] arg index k { l with scratch := l.scratch ++ ws }) := by
  have moved := reaches_issue (arg := arg) (index := index) (k := k) hs.faulted hs.disp
    (microSteps_drain_scratch (is := List.range s.cfg.blockWords) (l := l) (by rw [List.length_range, hlen]) hfifo)
  rw [List.length_map, List.length_range] at moved
  exact moved

/-! ### The block -/

/-- `DONE` alone of the tier's latches: the test passes, and the moves are planned (rules R201, R204). -/
theorem reaches_readDone {l : Locals} {s : State} (hs : s.Free) (h : s.regs.sbisr = 0x01#8) :
    Reaches s (.run [.pollDone] (.readDone .scratch) l) [.engine] s
      (issueAfter (drainBlock s.cfg .scratch) (argRca s.cfg) 13#6 (.ready (.readAfter .scratch))
        { l with doneBits := 0x01#8 }) := by
  have polls : microSteps [.pollDone] l s = some ({ l with doneBits := 0x01#8 }, s) := by
    rw [microSteps_cons (microStep_pollDone (by rw [h]; decide)), h]
    rfl
  have tested := reaches_plan (p := .readDone .scratch) (List.cons_ne_nil _ _) hs.faulted hs.disp polls
  obtain ⟨-, -, good⟩ := afterReadDone_cases (l := { l with doneBits := 0x01#8 }) (b := 0x01#8) rfl .scratch s
  rw [continueAt, good rfl rfl] at tested
  exact tested

/-- The turns of a block read into the scratch buffer after its data command: the words, the end of the phase, the test at
`DONE`, and the moves. -/
def blockTurns (c : Cfg) (ws : List Word) : List Turn :=
  ws.map (fun w => .event (.wordIn w)) ++ [.event (.dataDone false false)] ++ [.engine]
    ++ List.replicate c.blockWords .engine

/-- The block received and moved out: the phase is over, `DONE` is set. -/
def State.blockMoved (s : State) (ws : List Word) : State :=
  let t := (s.received ws).blockDone
  t.setHid { t.hid with rfifo := [] }

/-- A read phase of one block is open, and nothing is in the FIFO nor among the tier's latches (rule R129). -/
structure State.AwaitsBlock (s : State) (n : Nat) : Prop where
  dataPhase : s.hid.dataPhase = .read
  dataTier : s.hid.dataTier = .sb
  wordsLeft : s.hid.wordsLeft = n
  rfifo : s.hid.rfifo = []
  sbisr : s.regs.sbisr = 0#8

/-- From the data command's answer to the SEND_STATUS after the block. -/
theorem reaches_blockMoved {ws : List Word} {l : Locals} {s : State} (hs : s.Free) (hawaits : s.AwaitsBlock ws.length)
    (hroom : ws.length ≤ fifoDepth s.cfg) (hlen : ws.length = s.cfg.blockWords) :
    ∃ l', Reaches s (.run [.pollDone] (.readDone .scratch) l) (blockTurns s.cfg ws) (s.blockMoved ws)
        (issueAfter [] (argRca s.cfg) 13#6 (.ready (.readAfter .scratch)) l')
      ∧ l'.scratch = l.scratch ++ ws := by
  obtain ⟨hphase, htier, hleft, hfifo, hclear⟩ := hawaits
  have received := reaches_received (todo := [.pollDone]) (p := .readDone .scratch) (l := l) hs.faulted hphase
    (Nat.le_of_eq hleft.symm)
    (by rw [hfifo, List.length_nil, Nat.zero_add]; exact hroom)
  have left : (s.received ws).hid.wordsLeft = 0 := by rw [State.received, State.setHid_hid, hleft, Nat.sub_self]
  have phase : (s.received ws).hid.dataPhase ≠ .none := by
    rw [State.received, State.setHid_hid, hphase]
    decide
  have ended := reaches_event (s := s.received ws) (todo := [.pollDone]) (p := .readDone .scratch) (l := l) hs.faulted
    (controllerStep_dataDone phase left htier)
  have free : (s.received ws).blockDone.Free := ⟨hs.faulted, hs.disp, hs.cmdPhase⟩
  have latches : (s.received ws).blockDone.regs.sbisr = 0x01#8 := by
    show s.regs.sbisr ||| maskDone = _
    rw [hclear]
    decide
  have words : (s.received ws).blockDone.hid.rfifo = ws := by
    show s.hid.rfifo ++ ws = ws
    rw [hfifo, List.nil_append]
  exact ⟨_, ((received.trans ended).trans (reaches_readDone free latches)).trans (reaches_drained free hlen words), rfl⟩

theorem exchanged_blockMoved {s : State} (hs : s.Free) (hfifo : s.hid.rfifo = []) (ws : List Word) :
    Exchanged s (s.blockMoved ws) where
  free := ⟨hs.faulted, hs.disp, hs.cmdPhase⟩
  frame := rfl
  clkr := rfl
  clkoe := rfl
  datato := rfl
  rfifo := hfifo.symm

/-- SEND_EXT_CSD answered opens the read phase of one block. -/
theorem awaitsBlock_sendExtCsd {s : State} (hfifo : s.hid.rfifo = []) (arg : Word) (p : Resp) :
    (s.answered 8#6 arg p).AwaitsBlock s.cfg.blockWords :=
  ⟨rfl, rfl, rfl, hfifo, rfl⟩

/-- SEND_STATUS leaves the data phase alone. -/
theorem dataPhase_sendStatus (s : State) (arg : Word) (p : Resp) :
    (s.answered 13#6 arg p).hid.dataPhase = s.hid.dataPhase := rfl

/-- The Extended CSD read: from SEND_EXT_CSD to the end of `read_block` the words come to the scratch buffer, and the data
phase is over. -/
theorem exchangesTo_extCsd {p q : BitVec 48} {ws : List Word} {l : Locals} {s : State} (hs : s.Free)
    (hfifo : s.hid.rfifo = []) (hroom : s.cfg.blockWords ≤ fifoDepth s.cfg) (hlen : ws.length = s.cfg.blockWords)
    (hp : AnswersReady s.cfg 8#6 p) (hq : AnswersReady s.cfg 13#6 q) :
    ∃ t l', Reaches s (issueAfter [] argZero 8#6 (.readCmd .scratch) l)
        (answeredCommand (.short p) 6 ++ blockTurns s.cfg ws ++ answeredCommand (.short q) 6) t
        (readBlockEnds .scratch .transferSuccess l' t)
      ∧ Exchanged s t ∧ l'.scratch = l.scratch ++ ws ∧ t.hid.dataPhase = .none := by
  obtain ⟨l₁, asked, scratch₁⟩ := reaches_ready (arg := argZero) (k := .readCmd .scratch) (l := l) hs (by decide) hp
  have opened := exchanged_answered hs 8#6 argZero (.short p)
  have awaits := awaitsBlock_sendExtCsd hfifo argZero (.short p)
  rw [← hlen] at awaits
  obtain ⟨l₂, moved, scratch₂⟩ := reaches_blockMoved (ws := ws) (l := l₁) opened.free awaits
    (by rw [hlen, opened.cfg]; exact hroom) (by rw [hlen, opened.cfg])
  have closed := exchanged_blockMoved opened.free awaits.rfifo ws
  obtain ⟨l₃, ready, scratch₃⟩ := reaches_ready (index := 13#6) (arg := argRca s.cfg)
    (k := .ready (.readAfter .scratch)) (p := q) (l := l₂)
    closed.free (by decide) (by rw [closed.cfg, opened.cfg]; exact hq)
  rw [opened.cfg] at moved
  exact ⟨_, l₃, (asked.trans moved).trans ready, (opened.trans closed).trans (exchanged_answered closed.free _ _ _),
    by rw [scratch₃, scratch₂, scratch₁], dataPhase_sendStatus _ _ _⟩

end Sys2Proof.Machine
end

section
/-! A whole `init` with a DEVICE that answers (42_initialization.md rules R180 to R191), step by step: from each decision of
the pseudocode to the next. -/

namespace Sys2Proof.Machine

/-! ### The DEVICE -/

/-- The R1 answers of a whole `init`, each with the index of its command, in the order the commands are sent. -/
def initAnswers : List (Nat × BitVec 6) :=
  [(0, 3#6), (1, 7#6), (2, 6#6), (3, 13#6), (4, 6#6), (5, 13#6), (6, 13#6), (7, 8#6), (8, 13#6)]

/-- A DEVICE that answers every command of `init` without error and ready, powered up in sector mode: `o` is its OCR, `q` its
CID, `p k` its k-th R1 answer (30_encoding.md rule R88, 41_command_interface.md rule R171). -/
structure BringsUp (c : Cfg) (o : BitVec 48) (q : BitVec 136) (p : Nat → BitVec 48) : Prop where
  ocr : responseFits 1#6 (.short o) = true
  powered : ocrReady c (o.extractLsb' 8 32) = true
  sector : ocrMode c (o.extractLsb' 8 32) = c.ocrModeSector
  cid : responseFits 2#6 (.long q) = true
  card : ∀ a ∈ initAnswers, AnswersReady c a.2 (p a.1)

/-! ### Steps 3 to 5: identification -/

/-- The OCR of a DEVICE powered up in sector mode ends the loop of step 3 and passes step 4 (rules R183, R184). -/
theorem exchangesTo_ocr {o : BitVec 48} {l : Locals} {s : State} (hs : s.Free)
    (hfits : responseFits 1#6 (.short o) = true) (hready : ocrReady s.cfg (o.extractLsb' 8 32) = true)
    (hmode : ocrMode s.cfg (o.extractLsb' 8 32) = s.cfg.ocrModeSector) :
    ExchangesTo s (issueAfter [] s.cfg.ocrArg 1#6 .initOpCond l) (answeredCommand (.short o) 6) l.scratch
      fun l' _ => issueAfter [] argZero 2#6 .initCid l' := by
  obtain ⟨l₁, answered, scratch₁⟩ :=
    reaches_succeeded (arg := s.cfg.ocrArg) (k := .initOpCond) (l := l) hs (by decide) hfits
  have kept := exchanged_answered hs 1#6 s.cfg.ocrArg (.short o)
  have status : (s.answered 1#6 s.cfg.ocrArg (.short o)).cardStatus = o.extractLsb' 8 32 :=
    cardStatus_loadResponse (State.responded_rr _ _ _)
  have read := reaches_plan (p := .initOcr) (List.cons_ne_nil _ _) kept.free.faulted kept.free.disp
    (microSteps_readPayload32 l₁ (s.answered 1#6 s.cfg.ocrArg (.short o)))
  rw [status] at read
  have sector : continueAt .initOcr { l₁ with payload := o.extractLsb' 8 32 } (s.answered 1#6 s.cfg.ocrArg (.short o))
      = issueAfter [] argZero 2#6 .initCid { l₁ with payload := o.extractLsb' 8 32 } := by
    refine afterOcr_sector ?_ ?_ <;> rw [kept.cfg]
    · exact hready
    · exact hmode
  rw [sector] at read
  exact ⟨_, _, answered.trans read, kept, scratch₁⟩

/-- ALL_SEND_CID, SET_RELATIVE_ADDR and SELECT_CARD (rules R185, R186), on to the bus switch. -/
theorem exchangesTo_selected {q : BitVec 136} {p₀ p₁ : BitVec 48} {l : Locals} {s : State} (hs : s.Free)
    (hq : responseFits 2#6 (.long q) = true) (hp₀ : AnswersReady s.cfg 3#6 p₀) (hp₁ : AnswersReady s.cfg 7#6 p₁) :
    ExchangesTo s (issueAfter [] argZero 2#6 .initCid l)
      (answeredCommand (.long q) 2 ++ answeredCommand (.short p₀) 6 ++ answeredCommand (.short p₁) 6) l.scratch
      busSwitch := by
  have identified : ExchangesTo s (issueAfter [] argZero 2#6 .initCid l) _ l.scratch (resume .initCid .success) :=
    exchangesTo_succeeded hs (by decide) hq rfl
  have addressed := identified.andThen (next' := resume .initRca .success) fun t l₁ ht hl₁ =>
    exchangesTo_ready (arg := argRca t.cfg) ht.free (by decide) (ht.cfg ▸ hp₀) hl₁
  exact addressed.andThen fun t l₁ ht hl₁ => exchangesTo_ready ht.free (by decide) (ht.cfg ▸ hp₁) hl₁

/-! ### Step 6: bus width and speed -/

/-- The switch commands of step 6 that negotiate the bus width, with `wait_ready` (rules R187, R191), on to the speed
switch. -/
theorem exchangesTo_busSwitched {p₂ p₃ : BitVec 48} {arg : Word} {l : Locals} {s : State} (hs : s.Free)
    (hp₂ : AnswersReady s.cfg 6#6 p₂) (hp₃ : AnswersReady s.cfg 13#6 p₃) :
    ExchangesTo s (issueAfter [] arg 6#6 .initBusSwitch l)
      (answeredCommand (.short p₂) 6 ++ answeredCommand (.short p₃) 6) l.scratch speedSwitch := by
  exact (exchangesTo_ready hs (by decide) hp₂ rfl).andThen fun t l₁ ht hl₁ =>
    exchangesTo_ready ht.free (by decide) (ht.cfg ▸ hp₃) hl₁

/-- Step 6 for a controller of the width `v` names (rule R187): one bit wide it sends no bus switch. -/
theorem exchangesTo_speedSwitch {v : Byte} {p₂ p₃ : BitVec 48} {l : Locals} {s : State} (hs : s.Free)
    (hwidth : s.inst.busWidth = dataWidth v) (hcode : v.extractLsb' 2 2 ≠ 3#2) (hp₂ : AnswersReady s.cfg 6#6 p₂)
    (hp₃ : AnswersReady s.cfg 13#6 p₃) :
    ExchangesTo s (busSwitch l s)
      (if v.extractLsb' 2 2 = 0#2 then [] else answeredCommand (.short p₂) 6 ++ answeredCommand (.short p₃) 6) l.scratch
      speedSwitch := by
  have codes : ∀ c : BitVec 2, c ≠ 3#2 → c = 0#2 ∨ c = 1#2 ∨ c = 2#2 := by decide
  obtain ⟨-, -, -, -, one, four, eight⟩ := geometry_of_codes s.cfg v
  obtain code | code | code := codes _ hcode
  · rw [busSwitch_one l (hwidth.trans (one code)), if_pos code]
    exact .none hs
  · rw [busSwitch_four l (hwidth.trans (four code)), if_neg (by rw [code]; decide)]
    exact exchangesTo_busSwitched hs hp₂ hp₃
  · rw [busSwitch_eight l (hwidth.trans (eight code)), if_neg (by rw [code]; decide)]
    exact exchangesTo_busSwitched hs hp₂ hp₃

/-- The steps between the speed switch and the Extended CSD: the normal divider and the read FIFO emptied (rules R188,
R189). -/
def dividerSteps (clkDiv : Byte) : List Micro :=
  [.write .clkr clkDiv.zext, .setInst (.clkDiv clkDiv)] ++ [.write .ctrl 0x0A]

/-- The speed switch with `wait_ready` (rules R188, R191). -/
theorem exchangesTo_divider {p₄ p₅ : BitVec 48} {l : Locals} {s : State} (hs : s.Free) (hp₄ : AnswersReady s.cfg 6#6 p₄)
    (hp₅ : AnswersReady s.cfg 13#6 p₅) :
    ExchangesTo s (speedSwitch l s) (answeredCommand (.short p₄) 6 ++ answeredCommand (.short p₅) 6) l.scratch
      fun l' t => issueAfter (dividerSteps t.par.clkDiv) (argRca t.cfg) 13#6
        (.ready (.readBefore t.cfg.extCsdSentinel .scratch)) l' := by
  exact (exchangesTo_ready hs (by decide) hp₄ rfl).andThen fun t l₁ ht hl₁ =>
    exchangesTo_ready ht.free (by decide) (ht.cfg ▸ hp₅) hl₁

/-- The clock at the normal divider, the read FIFO empty. -/
def State.clocked (s : State) (clkDiv : Byte) : State :=
  { s with
    inst := { s.inst with clkDiv := clkDiv }
    regs := { s.regs with clkr := clkDiv, clkoe := true }
    hid := { s.hid with rfifo := [] } }

theorem microSteps_dividerSteps (clkDiv : Byte) (l : Locals) (s : State) :
    microSteps (dividerSteps clkDiv) l s = some (l, s.clocked clkDiv) := by
  simp only [dividerSteps, List.cons_append, List.nil_append, microSteps, microStep, writeReg, lowByte_zext]
  rfl

/-! ### Step 7: the Extended CSD -/

/-- SEND_STATUS before the block read, whose sector is the sentinel (rules R189, R201). -/
theorem exchangesTo_sendExtCsd {p₆ : BitVec 48} {l : Locals} {s : State} (hs : s.Free)
    (hp₆ : AnswersReady s.cfg 13#6 p₆) :
    ExchangesTo s (issueAfter [] (argRca s.cfg) 13#6 (.ready (.readBefore s.cfg.extCsdSentinel .scratch)) l)
      (answeredCommand (.short p₆) 6) l.scratch fun l' _ => issueAfter [] argZero 8#6 (.readCmd .scratch) l' := by
  obtain ⟨t, l₁, reached, kept, scratch₁⟩ := exchangesTo_ready (arg := argRca s.cfg) (l := l)
    (k := .ready (.readBefore s.cfg.extCsdSentinel .scratch)) hs (by decide) hp₆ rfl
  have command : resume (.ready (.readBefore s.cfg.extCsdSentinel .scratch)) .success l₁ t
      = issueAfter [] argZero 8#6 (.readCmd .scratch) l₁ := readCommand_sentinel .scratch l₁ (by rw [kept.cfg])
  rw [command] at reached
  exact ⟨t, l₁, reached, kept, scratch₁⟩

/-- The bytes of the Extended CSD captured (rule R189). -/
def State.captured (s : State) (x : List Word) : State :=
  s.setInst { s.inst with
    sectorCount := csdSectorCount s.cfg x
    cardType := csdByte s.cfg.littleEndian x s.cfg.extCsdCardType
    hsTiming := csdByte s.cfg.littleEndian x s.cfg.extCsdHsTiming.toNat }

/-- The three assignments of the Extended-CSD bytes (rule R189). -/
def captureSteps (c : Cfg) (x : List Word) : List Micro :=
  [.setInst (.sectorCount (csdSectorCount c x)),
   .setInst (.cardType (csdByte c.littleEndian x c.extCsdCardType)),
   .setInst (.hsTiming (csdByte c.littleEndian x c.extCsdHsTiming.toNat))]

/-- The block of the Extended CSD is read: its bytes are captured. -/
theorem readBlockEnds_scratch (l : Locals) (s : State) :
    readBlockEnds .scratch .transferSuccess l s = .run (captureSteps s.cfg l.scratch) .initCaptured l := rfl

theorem microSteps_captureSteps (x : List Word) (l : Locals) (s : State) :
    microSteps (captureSteps s.cfg x) l s = some (l, s.captured x) := rfl

/-- The end of step 7 with a non-zero `HS_TIMING`: `init` exits with `InitSuccess`. -/
theorem reaches_exit {l : Locals} {s : State} (hs : s.Free)
    (htiming : csdByte s.cfg.littleEndian l.scratch s.cfg.extCsdHsTiming.toNat ≠ 0#8) :
    Reaches s (readBlockEnds .scratch .transferSuccess l s) (List.replicate 14 .engine)
      ((s.captured l.scratch).exited .initSuccess) (.finish (some (.errCode .initSuccess))) := by
  rw [readBlockEnds_scratch]
  have captured := reaches_plan (p := .initCaptured) (List.cons_ne_nil _ _) hs.faulted hs.disp
    (microSteps_captureSteps l.scratch l s)
  have success : continueAt .initCaptured l (s.captured l.scratch) = exitInit .initSuccess l (s.captured l.scratch) :=
    afterCapture_nonzero htiming
  rw [success] at captured
  exact captured.trans (.of_engineTurns fun _ _ hturns => run_exitInit (s := s.captured l.scratch) hs.faulted hs.disp hturns)

/-! ### The whole of it -/

section
variable {o : BitVec 48} {q : BitVec 136} {p : Nat → BitVec 48}

/-- The turns of steps 3 to 6 after GO_IDLE_STATE, of a controller whose version register holds `v`. -/
def transferModeTurns (v : Byte) (o : BitVec 48) (q : BitVec 136) (p : Nat → BitVec 48) : List Turn :=
  answeredCommand (.short o) 6
    ++ (answeredCommand (.long q) 2 ++ answeredCommand (.short (p 0)) 6 ++ answeredCommand (.short (p 1)) 6)
    ++ (if v.extractLsb' 2 2 = 0#2 then [] else answeredCommand (.short (p 2)) 6 ++ answeredCommand (.short (p 3)) 6)
    ++ (answeredCommand (.short (p 4)) 6 ++ answeredCommand (.short (p 5)) 6)

/-- Steps 3 to 6 after GO_IDLE_STATE, of a controller that has captured the width `v` names. -/
theorem exchangesTo_transferMode {v : Byte} {l : Locals} {s : State} (hs : s.Free) (hdev : BringsUp s.cfg o q p)
    (hwidth : s.inst.busWidth = dataWidth v) (hcode : v.extractLsb' 2 2 ≠ 3#2) :
    ExchangesTo s (issueAfter [] s.cfg.ocrArg 1#6 .initOpCond l) (transferModeTurns v o q p) l.scratch
      fun l' t => issueAfter (dividerSteps t.par.clkDiv) (argRca t.cfg) 13#6
        (.ready (.readBefore t.cfg.extCsdSentinel .scratch)) l' := by
  obtain ⟨hocr, hpowered, hsector, hcid, hcard⟩ := hdev
  have answers (k : Nat) (index : BitVec 6) (hk : (k, index) ∈ initAnswers) {t : State} (ht : Exchanged s t) :
      AnswersReady t.cfg index (p k) := ht.cfg ▸ hcard (k, index) hk
  have ocr := exchangesTo_ocr (l := l) hs hocr hpowered hsector
  have selected := ocr.andThen fun t l₁ ht hl₁ => hl₁ ▸
    exchangesTo_selected (l := l₁) ht.free hcid (answers 0 3#6 (by decide) ht) (answers 1 7#6 (by decide) ht)
  have width := selected.andThen fun t l₁ ht hl₁ =>
    hl₁ ▸ exchangesTo_speedSwitch (l := l₁) ht.free (ht.inst ▸ hwidth) hcode
    (answers 2 6#6 (by decide) ht) (answers 3 13#6 (by decide) ht)
  exact width.andThen fun t l₁ ht hl₁ => hl₁ ▸
    exchangesTo_divider (l := l₁) ht.free (answers 4 6#6 (by decide) ht) (answers 5 13#6 (by decide) ht)

/-- The turns of `init` up to the Extended CSD: the programming and the version, GO_IDLE_STATE, the way to transfer mode, the
divider. -/
def clockedTurns (v : Byte) (o : BitVec 48) (q : BitVec 136) (p : Nat → BitVec 48) : List Turn :=
  List.replicate 10 .engine ++ (List.replicate 8 .engine ++ [.event .cmdSent, .engine]) ++ transferModeTurns v o q p
    ++ List.replicate 3 .engine

/-- From the request to the SEND_STATUS before the Extended CSD. -/
theorem reaches_clocked {initClkDiv : Byte} {l : Locals} {s : State} (hs : s.Free) (hdev : BringsUp s.cfg o q p)
    (hversion : versionRecognised s.cfg s.cfg.vrValue = true) :
    ∃ t l', Reaches s (.run (initSteps s.cfg initClkDiv) .initVersion l) (clockedTurns s.cfg.vrValue o q p)
        (t.clocked s.par.clkDiv)
        (issueAfter [] (argRca s.cfg) 13#6 (.ready (.readBefore s.cfg.extCsdSentinel .scratch)) l')
      ∧ Exchanged ((s.programmed initClkDiv).measured s.cfg.vrValue) t ∧ l'.scratch = l.scratch := by
  have measured : Reaches s (.run (initSteps s.cfg initClkDiv) .initVersion l) _ _ _ :=
    .of_engineTurns fun _ _ hturns => run_init_recognised hs.faulted hs.disp hversion hturns
  have free : ((s.programmed initClkDiv).measured s.cfg.vrValue).Free := ⟨hs.faulted, hs.disp, hs.cmdPhase⟩
  obtain ⟨l₁, idle, scratch₁⟩ := reaches_sent (index := 0#6) (arg := argZero) (k := .initGoIdle)
    (l := { l with version := s.cfg.vrValue }) free (by decide)
  have out := exchanged_commandOut (index := 0#6) free argZero (by decide)
  obtain ⟨-, hcode⟩ := (versionRecognised_iff _ _).1 hversion
  obtain ⟨t, l₂, moded, kept, scratch₂⟩ := exchangesTo_transferMode (v := s.cfg.vrValue) (l := l₁) out.free
    (out.cfg ▸ hdev) (by rw [out.inst]; rfl) hcode
  have fromMeasured := out.trans kept
  have clocked := reaches_issue (arg := argRca t.cfg) (index := 13#6)
    (k := .ready (.readBefore t.cfg.extCsdSentinel .scratch)) kept.free.faulted kept.free.disp
    (microSteps_dividerSteps t.par.clkDiv l₂ t)
  have reached := ((measured.trans idle).trans moded).trans clocked
  rw [fromMeasured.cfg, fromMeasured.par] at reached
  exact ⟨t, l₂, reached, fromMeasured, scratch₂.trans scratch₁⟩

/-- The turns of the Extended CSD and the exit. -/
def finishTurns (c : Cfg) (p : Nat → BitVec 48) (ws : List Word) : List Turn :=
  answeredCommand (.short (p 6)) 6
    ++ (answeredCommand (.short (p 7)) 6 ++ blockTurns c ws ++ answeredCommand (.short (p 8)) 6)
    ++ List.replicate 14 .engine

/-- From there to the exit with `InitSuccess`. -/
theorem reaches_initSuccess {ws : List Word} {l : Locals} {s : State} (hs : s.Free) (hdev : BringsUp s.cfg o q p)
    (hfifo : s.hid.rfifo = []) (hroom : s.cfg.blockWords ≤ fifoDepth s.cfg) (hlen : ws.length = s.cfg.blockWords)
    (hl : l.scratch = []) (htiming : csdByte s.cfg.littleEndian ws s.cfg.extCsdHsTiming.toNat ≠ 0#8) :
    ∃ t, Reaches s (issueAfter [] (argRca s.cfg) 13#6 (.ready (.readBefore s.cfg.extCsdSentinel .scratch)) l)
        (finishTurns s.cfg p ws) ((t.captured ws).exited .initSuccess) (.finish (some (.errCode .initSuccess)))
      ∧ Exchanged s t ∧ t.hid.dataPhase = .none := by
  have answers (k : Nat) (index : BitVec 6) (hk : (k, index) ∈ initAnswers) {t : State} (ht : Exchanged s t) :
      AnswersReady t.cfg index (p k) := ht.cfg ▸ hdev.card (k, index) hk
  obtain ⟨t, l₁, asked, kept, scratch₁⟩ := exchangesTo_sendExtCsd (l := l) hs (answers 6 13#6 (by decide) (.refl hs))
  obtain ⟨u, l₂, read, block, scratch₂, closed⟩ :=
    exchangesTo_extCsd (ws := ws) (l := l₁) kept.free (kept.rfifo.trans hfifo)
      (kept.cfg ▸ hroom) (kept.cfg ▸ hlen) (answers 7 8#6 (by decide) kept) (answers 8 13#6 (by decide) kept)
  have words : l₂.scratch = ws := by rw [scratch₂, scratch₁, hl, List.nil_append]
  have all := kept.trans block
  have exited := reaches_exit (l := l₂) block.free (by rw [words, all.cfg]; exact htiming)
  rw [words] at exited
  rw [kept.cfg] at read
  exact ⟨u, (asked.trans read).trans exited, all, closed⟩

end

/-- Settles O60: the whole schedule in two parts, up to the Extended CSD and from there; what the exchanges between leave
alone gives the fields. -/
theorem initBringsUpTheDevice : Obligations.InitBringsUpTheDevice := by
  rintro s initClkDiv clkDiv p o q ws csd schedule ⟨hf, -, hd, -⟩ hinit hphase hroom hrev hcode hfits hocr hcid hready
    hpowered hsector hlen hle hbe htiming rfl
  have hdev : BringsUp s.cfg o q p :=
    ⟨hocr, hpowered, hsector, hcid, fun a ha => ⟨hfits a ha, hready a.1⟩⟩
  have hcsd := csdByte_eq hle hbe
  obtain ⟨t, l, clocked, kept, scratch⟩ := reaches_clocked (initClkDiv := initClkDiv) (l := Locals.start)
    (s := (s.setPar ⟨initClkDiv, clkDiv⟩).setResult none) ⟨hf, hd, hphase⟩ hdev
    ((versionRecognised_iff _ _).2 ⟨hrev, hcode⟩)
  have cfg : (t.clocked clkDiv).cfg = s.cfg := kept.cfg
  obtain ⟨u, success, block, phase⟩ := reaches_initSuccess (ws := ws) (l := l) (s := t.clocked clkDiv)
    ⟨kept.free.faulted, kept.free.disp, kept.free.cmdPhase⟩ (cfg ▸ hdev) rfl (cfg ▸ hroom) (cfg ▸ hlen) scratch
    (by rw [cfg, hcsd]; exact htiming)
  rw [cfg] at success
  have turns := clocked.trans success
  obtain ⟨depth0, depth1, depth2, depth3, width1, width4, width8⟩ := geometry_of_codes s.cfg s.cfg.vrValue
  refine ⟨_, ((u.captured ws).exited .initSuccess).decided [] (.finish (some (.errCode .initSuccess))), _, _,
    exec_init hinit _ _, ?run, rfl, rfl, rfl, rfl, ?inst, depth0, depth1, depth2, depth3, width1, width4, width8, ?st,
    block.clkr, block.clkoe, block.datato.trans kept.datato, rfl, rfl, rfl, block.free.cmdPhase, phase, block.rfifo,
    block.mem.trans kept.mem⟩
  case run =>
    have ran := turns []
    rw [List.append_nil] at ran
    simp only [clockedTurns, finishTurns, transferModeTurns, blockTurns, List.append_assoc, List.cons_append,
      List.nil_append] at ran ⊢
    exact ran
  case inst =>
    have before : u.inst = { ((s.programmed initClkDiv).measured s.cfg.vrValue).inst with clkDiv := clkDiv } := by
      rw [block.inst, State.clocked, kept.inst]
      rfl
    show (u.captured ws).inst = _
    rw [State.captured, State.setInst_inst, before, block.cfg, cfg, csdSectorCount, hcsd]
    rfl
  case st =>
    show (⟨.idle, 0, 0, 0, maxTicks u.cfg, .initSuccess, .initSuccess⟩ : Status) = _
    rw [block.cfg, cfg]
    rfl

end Sys2Proof.Machine
end

section
/-! The requests of the blocking transfers, and what such a transfer leaves alone (43_blocking_transfers.md rules R200 to R202):
the tests in their order, and the shape every step of one keeps, in which no engine register is written. -/

namespace Sys2Proof.Machine

/-! ### The requests -/

theorem exec_sbw (iv : Bool) (buf sector : Word) (s : State) :
    exec (.sbw iv buf sector) s = blockingTransfer iv buf s fun t =>
      startOperation (.write .ctrl 0x06 :: issueSteps (argRca t.cfg) 13#6)
        (issuePoint 13#6 (.ready (.writeBefore buf sector))) t := rfl

theorem exec_sbr (iv : Bool) (sector buf : Word) (s : State) :
    exec (.sbr iv sector buf) s = blockingTransfer iv buf s fun t =>
      startOperation (.write .ctrl 0x0A :: issueSteps (argRca t.cfg) 13#6)
        (issuePoint 13#6 (.ready (.readBefore sector (.caller buf)))) t := rfl

theorem bufferFits_iff (s : State) (buf : Word) : bufferFits s buf = true ↔
    buf.toNat % 4 = 0
    ∧ (∃ e ∈ s.callerMem, e.1 ≤ buf.toNat ∧ buf.toNat + s.cfg.sectorBytes ≤ e.1 + e.2)
    ∧ (buf.toNat + s.cfg.sectorBytes ≤ s.cfg.base.toNat ∨ s.cfg.base.toNat + 0x52 ≤ buf.toNat) := by
  simp only [bufferFits, Bool.and_eq_true, Bool.or_eq_true, beq_iff_eq, List.any_eq_true, decide_eq_true_eq, and_assoc]

section
variable {buf : Word} {s : State} {body : State → Host.Outcome State Fault Refusal}

/-- The tests of rule R202, in their order. -/
theorem blockingTransfer_nullInstance :
    blockingTransfer false buf s body = .next { s with faulted := some .nullInstance } := rfl

theorem blockingTransfer_notInitialised (h : s.initialised = false) :
    blockingTransfer true buf s body = .refused .notInitialised := by
  simp [blockingTransfer, h]

theorem blockingTransfer_inFlight (hinit : s.initialised = true) (h : s.st.errState = .processing) :
    blockingTransfer true buf s body = .refused .transferInFlight := by
  simp [blockingTransfer, hinit, h]

theorem blockingTransfer_badBuffer (hinit : s.initialised = true) (hidle : s.st.errState ≠ .processing)
    (h : bufferFits s buf = false) : blockingTransfer true buf s body = .refused .badBuffer := by
  simp [blockingTransfer, hinit, hidle, h]

theorem blockingTransfer_passes (hinit : s.initialised = true) (hidle : s.st.errState ≠ .processing)
    (h : bufferFits s buf = true) : blockingTransfer true buf s body = body s := by
  simp [blockingTransfer, hinit, hidle, h]

/-- A valid request that is answered by a next state has passed them all. -/
theorem blockingTransfer_next {t : State} (h : blockingTransfer true buf s body = .next t) : body s = .next t := by
  unfold blockingTransfer at h
  split at h
  · next hiv => cases hiv
  · split at h
    · cases h
    · split at h
      · cases h
      · split at h
        · cases h
        · exact h

end

/-- Settles O40: both requests make the same tests, each with its own refusal, and begin where all pass. -/
theorem blockingTransfersTestTheirPreconditions : Obligations.BlockingTransfersTestTheirPreconditions := by
  intro s buf sector i hi
  have request : ∃ (todo : State → List Micro) (point : Point), ∀ iv,
      exec (i iv) s = blockingTransfer iv buf s fun t => startOperation (todo t) point t := by
    obtain rfl | rfl := hi
    · exact ⟨_, _, fun iv => exec_sbw iv buf sector s⟩
    · exact ⟨_, _, fun iv => exec_sbr iv sector buf s⟩
  obtain ⟨todo, point, request⟩ := request
  simp only [request]
  refine ⟨bufferFits_iff s buf, blockingTransfer_nullInstance, blockingTransfer_notInitialised, blockingTransfer_inFlight,
    fun hinit hidle hodd => blockingTransfer_badBuffer hinit hidle (Bool.eq_false_iff.2 fun hfits => ?misaligned),
    blockingTransfer_badBuffer, fun hinit hidle hfits => ⟨_, blockingTransfer_passes hinit hidle hfits, ?begun⟩⟩
  case misaligned =>
    obtain ⟨haligned, -⟩ := (bufferFits_iff s buf).1 hfits
    exact hodd haligned
  case begun => exact Option.some_ne_none _

/-! ### The steps a blocking transfer takes -/

/-- What a step of a blocking transfer can write: registers and hidden state, and caller memory; a draw may be made. -/
theorem microStep_blocking_frame {s t : State} {m : Micro} {l l' : Locals} {more : List Micro}
    (hm : blockingMicro m = true) (h : microStep m l s = .next more l' t) :
    t = { s with regs := t.regs, hid := t.hid, mem := t.mem, draws := t.draws } := by
  cases m <;> simp only [microStep, readByte] at h
  case write | fill =>
    split at h
    · next hw => cases h; rw [writeReg_frame hw]
    · cases h
  case drain dest i =>
    cases dest with
    | caller => cases h; rw [readReg_frame .rdr s]; rfl
    | scratch => cases h; rw [readReg_frame .rdr s]
  case pollSent | pollResponse | pollDone | payloadByte => cases h; rfl
  all_goals cases hm

/-- From `s` to `t` the engine registers are as before (10_state.md rules R20 to R22, R49). -/
structure KeepsEngineRegisters (s t : State) : Prop where
  st : t.st = s.st
  inst : t.inst = s.inst
  par : t.par = s.par
  initialised : t.initialised = s.initialised
  initExited : t.initExited = s.initExited

theorem ctxStep_keepsEngineRegisters {c : Ctx} {s t : State} (hc : c.todo.all blockingMicro = true)
    (h : (ctxStep c s).state? = some t) : KeepsEngineRegisters s t := by
  obtain rfl | ⟨m, rest, more, l, htodo, hm⟩ := ctxStep_cases h
  · exact ⟨rfl, rfl, rfl, rfl, rfl⟩
  · rw [htodo, List.all_cons, Bool.and_eq_true] at hc
    rw [microStep_blocking_frame hc.1 hm]
    exact ⟨rfl, rfl, rfl, rfl, rfl⟩

/-! ### The tests a blocking transfer comes to -/

theorem blocking_issueSteps (arg : Word) (index : BitVec 6) : (issueSteps arg index).all blockingMicro = true := by
  unfold issueSteps
  split <;> rfl

theorem blocking_issuePoint (index : BitVec 6) (k : Cont) : blockingPoint (issuePoint index k) = blockingCont k := by
  unfold issuePoint
  split <;> rfl

theorem blocking_fillBlock (c : Cfg) (buf : Word) : (fillBlock c buf).all blockingMicro = true := by
  simp [fillBlock, blockingMicro]

theorem blocking_drainBlock (c : Cfg) (buf : Word) : (drainBlock c (.caller buf)).all blockingMicro = true := by
  simp [drainBlock, blockingMicro]

/-- A decision that goes on as a blocking transfer, or ends it. -/
def Decision.Blocking : Decision → Prop
  | .run todo p _ => todo.all blockingMicro = true ∧ blockingPoint p = true
  | .finish _ => True

section
variable (l : Locals) (s : State)

theorem issueAfter_blocking {before : List Micro} {k : Cont} (hbefore : before.all blockingMicro = true)
    (hk : blockingCont k = true) (arg : Word) (index : BitVec 6) : (issueAfter before arg index k l).Blocking := by
  refine ⟨?_, (blocking_issuePoint index k).trans hk⟩
  rw [List.all_append, hbefore, blocking_issueSteps, Bool.and_self]

theorem readCommand_blocking (sector buf : Word) : (readCommand sector (.caller buf) l s).Blocking := by
  unfold readCommand
  split <;> exact issueAfter_blocking l rfl rfl _ _

/-- After `wait_ready` (rules R200, R201). -/
theorem afterWait_blocking {w : Wait} (hw : blockingWait w = true) (failed : Bool) : (afterWait w failed l s).Blocking := by
  cases w
  case writeBefore buf sector =>
    cases failed
    · exact issueAfter_blocking l rfl rfl _ _
    · trivial
  case writeAfter => trivial
  case readBefore sector dest =>
    cases dest
    case scratch => cases hw
    case caller buf =>
      cases failed
      · exact readCommand_blocking l s sector buf
      · trivial
  case readAfter dest =>
    cases dest
    case scratch => cases hw
    case caller buf => trivial
  all_goals cases hw

/-- After the result of a command. -/
theorem resume_blocking {k : Cont} (hk : blockingCont k = true) (r : CmdResult) : (resume k r l s).Blocking := by
  cases k
  case ready w =>
    simp only [resume]
    split
    · exact issueAfter_blocking l rfl hk _ _
    · exact afterWait_blocking l s hk _
  case writeCmd buf =>
    simp only [resume]
    split
    · refine ⟨?_, rfl⟩
      rw [List.all_append, blocking_fillBlock]
      rfl
    · trivial
  case readCmd dest =>
    cases dest
    case scratch => cases hk
    case caller buf =>
      simp only [resume]
      split
      · exact ⟨rfl, rfl⟩
      · trivial
  all_goals cases hk

theorem afterResponse_blocking {k : Cont} (hk : blockingCont k = true) (index : BitVec 6) :
    (afterResponse index k l s).Blocking := by
  unfold afterResponse
  split
  · exact resume_blocking l s hk _
  · split
    · exact ⟨rfl, hk⟩
    · exact resume_blocking l s hk _

/-- After `poll_done` (rule R204). -/
theorem afterWriteDone_blocking : (afterWriteDone l s).Blocking := by
  unfold afterWriteDone
  split
  · trivial
  · split
    · trivial
    · exact issueAfter_blocking l rfl rfl _ _

theorem afterReadDone_blocking (buf : Word) : (afterReadDone (.caller buf) l s).Blocking := by
  unfold afterReadDone
  split
  · trivial
  · split
    · trivial
    · exact issueAfter_blocking l (blocking_drainBlock _ buf) rfl _ _

/-- A test of a blocking transfer leads to one, or to its end. -/
theorem continueAt_blocking {p : Point} (hp : blockingPoint p = true) : (continueAt p l s).Blocking := by
  cases p
  case ret => trivial
  case result => exact resume_blocking l s hp _
  case responded => exact afterResponse_blocking l s hp _
  case parsed => exact resume_blocking l s hp _
  case writeDone => exact afterWriteDone_blocking l s
  case readDone dest =>
    cases dest
    case scratch => cases hp
    case caller buf => exact afterReadDone_blocking l s buf
  all_goals cases hp

end

/-! ### A step of a context that goes on -/

theorem settle_running {p : Point} {l : Locals} {c' : Ctx} {s t : State} (h : settle p l s = .running c' t) :
    continueAt p l s = .run c'.todo c'.point c'.locals := by
  unfold settle at h
  split at h
  · next hd => cases h; exact hd
  · cases h

/-- A context that goes on after a step is at what its test decides, or has the rest of its plan, behind the step again
where that is a loop. -/
theorem ctxStep_running_cases {c c' : Ctx} {s t : State} (h : ctxStep c s = .running c' t) :
    (∃ l u, continueAt c.point l u = .run c'.todo c'.point c'.locals)
    ∨ ∃ m rest more l, c.todo = m :: rest ∧ microStep m c.locals s = .next more l t
        ∧ c'.todo = more ++ rest ∧ c'.point = c.point := by
  unfold ctxStep at h
  split at h
  · exact .inl ⟨_, _, settle_running h⟩
  next m rest htodo =>
    split at h
    · cases h
    next more l u hm =>
      split at h
      · exact .inl ⟨_, _, settle_running h⟩
      next hplan => cases h; exact .inr ⟨m, rest, more, l, htodo, hm, hplan.symm, rfl⟩

theorem ctxStep_blocking {c c' : Ctx} {s t : State} (hc : c.isBlocking = true) (h : ctxStep c s = .running c' t) :
    c'.isBlocking = true := by
  obtain ⟨hplan, hpoint⟩ := Bool.and_eq_true_iff.1 hc
  refine Bool.and_eq_true_iff.2 ?_
  obtain ⟨l, u, decided⟩ | ⟨m, rest, more, l, htodo, hm, hplan', hpoint'⟩ := ctxStep_running_cases h
  · have blocking := continueAt_blocking l u hpoint
    rw [decided] at blocking
    exact blocking
  · rw [hplan', hpoint']
    refine ⟨?_, hpoint⟩
    rw [htodo, List.all_cons, Bool.and_eq_true] at hplan
    obtain ⟨hfirst, hrest⟩ := hplan
    obtain rfl | rfl := microStep_more hm <;> simp [hfirst, hrest]

/-- A step of ENGINE in a blocking transfer. -/
theorem engineStep_blocking {c : Ctx} {s t : State} (he : s.engine = some c) (hc : c.isBlocking = true)
    (h : engineStep s = .next t) : KeepsEngineRegisters s t ∧ ∀ c', t.engine = some c' → c'.isBlocking = true := by
  have hplan := (Bool.and_eq_true_iff.1 hc).1
  obtain ⟨hnone, -⟩ | ⟨c₀, u, hsome, hstep⟩ := engineStep_cases h
  · cases he.symm.trans hnone
  obtain rfl := Option.some.inj (he.symm.trans hsome)
  obtain ⟨c', hrun, rfl⟩ | ⟨v, hfin, rfl⟩ := hstep
  · obtain ⟨hst, hinst, hpar, hinit, hexited⟩ := ctxStep_keepsEngineRegisters hplan (congrArg CtxResult.state? hrun)
    exact ⟨⟨hst, hinst, hpar, hinit, hexited⟩, fun d hd => Option.some.inj hd ▸ ctxStep_blocking hc hrun⟩
  · obtain ⟨hst, hinst, hpar, hinit, hexited⟩ := ctxStep_keepsEngineRegisters hplan (congrArg CtxResult.state? hfin)
    exact ⟨⟨hst, hinst, hpar, hinit, hexited⟩, fun d hd => nomatch hd⟩

/-- The operation a request begins: the write of `CTRL`, then SEND_STATUS. -/
theorem startOperation_blocking {v arg : Word} {k : Cont} {s t : State} (hk : blockingCont k = true)
    (h : startOperation (.write .ctrl v :: issueSteps arg 13#6) (issuePoint 13#6 k) s = .next t) :
    t.st = s.st ∧ t.inst = s.inst ∧ ∃ c, t.engine = some c ∧ c.isBlocking = true := by
  cases h
  refine ⟨rfl, rfl, _, rfl, Bool.and_eq_true_iff.2 ⟨?_, (blocking_issuePoint 13#6 k).trans hk⟩⟩
  exact (Bool.true_and _).trans (blocking_issueSteps arg 13#6)

/-- Settles O14: what the two requests begin, and what every step of ENGINE keeps. -/
theorem blockingTransferKeepsTheStatusRecord : Obligations.BlockingTransferKeepsTheStatusRecord := by
  refine ⟨fun s t a b h => ?request, fun s t c he hc h => ?step⟩
  case request =>
    obtain h | h := h
    · rw [exec_sbw] at h
      have begun := blockingTransfer_next h
      exact startOperation_blocking (k := .ready (.writeBefore a b)) rfl begun
    · rw [exec_sbr] at h
      have begun := blockingTransfer_next h
      exact startOperation_blocking (k := .ready (.readBefore a (.caller b))) rfl begun
  case step =>
    obtain ⟨⟨hst, hinst, hpar, hinit, hexited⟩, blocking⟩ := engineStep_blocking he hc h
    exact ⟨hst, hinst, hpar, hinit, hexited, blocking⟩

end Sys2Proof.Machine
end

section
/-! The opening of a blocking transfer and its loops (43_blocking_transfers.md rules R200, R201; 20_memory.md rule R67): the
FIFO emptied and SEND_STATUS sent; the words of the buffer pushed; the words of a block stored in the buffer. -/

namespace Sys2Proof.Machine

/-! ### The FIFO emptied, SEND_STATUS sent -/

/-- The clock on and the write FIFO empty, or the read FIFO (40_register_model.md rule R121). -/
def State.writeReset (s : State) : State :=
  { s with regs := { s.regs with clkoe := true }, hid := { s.hid with wfifo := [] } }

def State.readReset (s : State) : State :=
  { s with regs := { s.regs with clkoe := true }, hid := { s.hid with rfifo := [] } }

theorem microStep_writeReset (l : Locals) (s : State) : microStep (.write .ctrl 0x06) l s = .next [] l s.writeReset := rfl

theorem microStep_readReset (l : Locals) (s : State) : microStep (.write .ctrl 0x0A) l s = .next [] l s.readReset := rfl

/-- From the request of a block at rest to the first wait: the write of `CTRL`, then `issue_command` (41_command_interface.md
rules R165, R166). -/
theorem run_resetAndAsk {v : Word} {k : Cont} {s r : State} (hs : Quiet s) (hphase : r.hid.cmdPhase = .none)
    (hreset : microStep (.write .ctrl v) Locals.start (s.setResult none) = .next [] Locals.start r) :
    run 9 ((s.setResult none).setEngine
        (some ⟨.write .ctrl v :: issueSteps (argRca s.cfg) 13#6, issuePoint 13#6 k, Locals.start⟩))
      = .next { r.latchesCleared.commandSent 13#6 (argRca s.cfg) with
          engine := some ⟨[.pollSent, .pollResponse], issuePoint 13#6 k, Locals.start⟩ } := by
  obtain ⟨hf, -, hd, ha⟩ := hs
  have frame := microStep_frame hreset
  have hf' : r.faulted = none := by rw [frame]; exact hf
  have hd' : r.disp = none := by rw [frame]; exact hd
  have ha' : r.agenda = [] := by rw [frame]; exact ha
  have reset := run_before_issue (before := [.write .ctrl v]) (index := 13#6) (arg := argRca s.cfg) (k := k)
    (s := s.setResult none) hf hd (.background 1 rfl) (microSteps_cons hreset [])
  have asked := run_issueSteps (index := 13#6) (arg := argRca s.cfg) (p := issuePoint 13#6 k) (l := Locals.start)
    (s := r.decided [] (issueAfter [] (argRca s.cfg) 13#6 k Locals.start)) hf' hd' rfl (.background 8 rfl) hphase (by decide)
  refine (congrArg (run 9) (State.placed_of_agenda (s := s.setResult none) ha _).symm).trans ?_
  rw [← State.placed_of_agenda (s := r.latchesCleared.commandSent 13#6 (argRca s.cfg)) ha']
  exact (run_add (n := 8) reset).trans asked

/-- Settles O41: the tests pass, and from there the write of `CTRL` is followed by the eight writes of `issue_command`. -/
theorem blockingTransfersResetTheFifoAndAskForStatus : Obligations.BlockingTransfersResetTheFifoAndAskForStatus := by
  intro s buf sector hs hinit hidle hfits hphase
  have write := run_resetAndAsk (k := .ready (.writeBefore buf sector)) hs (r := (s.setResult none).writeReset) hphase
    (microStep_writeReset _ _)
  have read := run_resetAndAsk (k := .ready (.readBefore sector (.caller buf))) hs (r := (s.setResult none).readReset) hphase
    (microStep_readReset _ _)
  exact ⟨⟨_, _, (exec_sbw true buf sector s).trans (blockingTransfer_passes hinit hidle hfits), write, rfl⟩,
    ⟨_, _, (exec_sbr true sector buf s).trans (blockingTransfer_passes hinit hidle hfits), read, rfl⟩⟩

/-! ### The words of the buffer pushed -/

/-- These words have been pushed (40_register_model.md rule R116). -/
def State.pushed (s : State) (ws : List Word) : State :=
  s.setHid { s.hid with wfifo := s.hid.wfifo ++ ws }

theorem microStep_fill {buf : Word} {i : Nat} {l : Locals} {s : State} (hroom : s.hid.wfifo.length < fifoDepth s.cfg) :
    microStep (.fill buf i) l s = .next [] l (s.pushed [bufWord s.cfg.littleEndian s.mem buf i]) := by
  simp only [microStep, writeReg, writeWdr_pushes _ hroom]
  rfl

/-- As many rounds of the loop as there is room for. -/
theorem microSteps_fill {is : List Nat} {buf : Word} {l : Locals} {s : State}
    (hroom : s.hid.wfifo.length + is.length ≤ fifoDepth s.cfg) :
    microSteps (is.map (.fill buf)) l s = some (l, s.pushed (is.map (bufWord s.cfg.littleEndian s.mem buf))) := by
  induction is generalizing s with
  | nil => simp only [List.map_nil, microSteps, State.pushed, List.append_nil]; rfl
  | cons i is ih =>
    rw [List.length_cons] at hroom
    rw [List.map_cons, microSteps_cons (microStep_fill (by omega)), ih]
    · simp only [State.pushed, State.setHid, List.map_cons, List.append_assoc, List.singleton_append]
    · simp only [State.pushed, State.setHid_hid, State.setHid_cfg, List.length_append, List.length_singleton]
      omega

/-- Settles O42, by the rounds of the loop on ENGINE's turns. -/
theorem blockWriteFillsTheFifo : Obligations.BlockWriteFillsTheFifo := by
  intro s buf m rest p l hf hd ha he hroom
  have filled := microSteps_fill (is := List.range s.cfg.blockWords) (buf := buf) (l := l) (by rwa [List.length_range])
  have ran := run_planned hf hd he (.background _ ha) filled
  rw [List.length_map, List.length_range, State.placed_of_agenda (s := s.pushed _) ha] at ran
  exact ran

/-! ### Words stored in a buffer -/

/-- The words stored in the buffer at `b` from `buf32[k]` upwards. -/
def storeWords (le : Bool) (m : Memory) (b : Word) (k : Nat) : List Word → Memory
  | [] => m
  | w :: ws => storeWords le (setBufWord le m b k w) b (k + 1) ws

section
variable {le : Bool} {b : Word}

theorem wf_storeWords {m : Memory} (k : Nat) (ws : List Word) (h : Memory.wf m = true) :
    Memory.wf (storeWords le m b k ws) = true := by
  induction ws generalizing m k with
  | nil => exact h
  | cons w ws ih => exact ih (k + 1) (wf_setBufWord le b k w h)

/-- A byte outside the words stored reads as before. -/
theorem read_storeWords_other {m : Memory} {k : Nat} {ws : List Word} {a : Nat} (h : Memory.wf m = true)
    (ha : a < b.toNat + 4 * k ∨ b.toNat + 4 * (k + ws.length) ≤ a) : (storeWords le m b k ws).read a = m.read a := by
  induction ws generalizing m k with
  | nil => rfl
  | cons w ws ih =>
    rw [List.length_cons] at ha
    calc (storeWords le (setBufWord le m b k w) b (k + 1) ws).read a
      _ = (setBufWord le m b k w).read a := ih (wf_setBufWord le b k w h) (by omega)
      _ = m.read a := read_setBufWord_other le b k w a h (by omega)

/-- So does a word below them. -/
theorem bufWord_storeWords_below {m : Memory} {k j : Nat} (ws : List Word) (h : Memory.wf m = true) (hj : j < k) :
    bufWord le (storeWords le m b k ws) b j = bufWord le m b j := by
  simp only [bufWord]
  rw [read_storeWords_other h (by omega), read_storeWords_other h (by omega), read_storeWords_other h (by omega),
    read_storeWords_other h (by omega)]

/-- The words stored are the words read back. -/
theorem bufWord_storeWords {m : Memory} {k i : Nat} {ws : List Word} (h : Memory.wf m = true) (hi : i < ws.length) :
    bufWord le (storeWords le m b k ws) b (k + i) = ws.getD i 0#32 := by
  induction ws generalizing m k i with
  | nil => exact absurd hi (Nat.not_lt_zero i)
  | cons w ws ih =>
    have hm := wf_setBufWord le b k w h
    cases i with
    | zero => exact (bufWord_storeWords_below ws hm (Nat.lt_succ_self k)).trans (bufWord_setBufWord_same le b k w h)
    | succ i =>
      rw [Nat.add_succ, ← Nat.succ_add]
      exact ih hm (Nat.lt_of_succ_lt_succ hi)

end

/-- The two byte orders of a buffer word (20_memory.md rule R67). -/
theorem bufWord_bytes (mem : Memory) (buf : Word) (i : Nat) :
    bufWord true mem buf i = mem.read (buf.toNat + 4 * i + 3) ++ mem.read (buf.toNat + 4 * i + 2)
      ++ mem.read (buf.toNat + 4 * i + 1) ++ mem.read (buf.toNat + 4 * i)
    ∧ bufWord false mem buf i = mem.read (buf.toNat + 4 * i) ++ mem.read (buf.toNat + 4 * i + 1)
      ++ mem.read (buf.toNat + 4 * i + 2) ++ mem.read (buf.toNat + 4 * i + 3) :=
  ⟨rfl, rfl⟩

/-! ### The words of a block stored -/

/-- These words have left the read FIFO, which now holds `more`, for the buffer at `buf` from `buf32[k]` upwards (rule R201). -/
def State.drained (s : State) (buf : Word) (k : Nat) (ws more : List Word) : State :=
  (s.setHid { s.hid with rfifo := more }).setMem (storeWords s.cfg.littleEndian s.mem buf k ws)

theorem microStep_drain_caller {buf w : Word} {i : Nat} {more : List Word} {l : Locals} {s : State}
    (h : s.hid.rfifo = w :: more) : microStep (.drain (.caller buf) i) l s = .next [] l (s.drained buf i [w] more) := by
  simp only [microStep, readReg, readRdr, h]
  rfl

/-- As many rounds of the loop as there are words. -/
theorem microSteps_drain_caller {ws more : List Word} {buf : Word} {k : Nat} {l : Locals} {s : State}
    (h : s.hid.rfifo = ws ++ more) :
    microSteps ((List.range' k ws.length).map (.drain (.caller buf))) l s = some (l, s.drained buf k ws more) := by
  induction ws generalizing k s with
  | nil => simp only [State.drained, ← h.trans (List.nil_append more)]; rfl
  | cons w ws ih =>
    rw [List.length_cons, List.range'_succ, List.map_cons, microSteps_cons (microStep_drain_caller h), ih rfl]
    rfl

/-- Settles O43: the rounds of the loop on ENGINE's turns, and what the words they store leave. -/
theorem blockReadDrainsTheFifo : Obligations.BlockReadDrainsTheFifo := by
  refine ⟨fun s buf m rest p l ws more hf hd ha he hwf hfifo hlen => ?loop, bufWord_bytes⟩
  have stored := microSteps_drain_caller (buf := buf) (k := 0) (l := l) hfifo
  rw [hlen, ← List.range_eq_range'] at stored
  have ran := run_planned hf hd he (.background _ ha) stored
  rw [List.length_map, List.length_range, State.placed_of_agenda (s := s.drained buf 0 ws more) ha] at ran
  refine ⟨_, ran, wf_storeWords 0 ws hwf, fun i hi => ?_, fun a houtside => read_storeWords_other hwf ?_⟩
  · have word := bufWord_storeWords (le := s.cfg.littleEndian) (b := buf) (k := 0) hwf (hlen ▸ hi)
    rwa [Nat.zero_add] at word
  · rwa [hlen, Nat.mul_zero, Nat.add_zero, Nat.zero_add]

end Sys2Proof.Machine
end

section
/-! A whole blocking transfer with a DEVICE that answers (43_blocking_transfers.md rules R200, R201, R203), from each decision
of the pseudocode to the next: the commands, the block moved by CONTROLLER (40_register_model.md rules R131 to R133), and the
loop over the words of the buffer. -/

namespace Sys2Proof.Machine

/-! ### The steps before a wait, and the end of the block -/

/-- The steps of a plan but for its rest. -/
theorem reaches_planned {todo rest : List Micro} {m : Micro} {p : Point} {l l' : Locals} {s t : State}
    (hf : s.faulted = none) (hd : s.disp = none) (h : microSteps todo l s = some (l', t)) :
    Reaches s (.run (todo ++ m :: rest) p l) (List.replicate todo.length .engine) t (.run (m :: rest) p l') :=
  .of_engineTurns fun turns _ hturns =>
    run_planned (s := s.decided turns _) (t := t.placed turns _) hf hd rfl hturns (microSteps_placed h turns _)

/-- `DONE` alone of the tier's latches: `poll_done` ends in one step, with its test (rule R203). -/
theorem reaches_done {p : Point} {l : Locals} {s : State} (hs : s.Free) (h : s.regs.sbisr = 0x01#8) :
    Reaches s (.run [.pollDone] p l) [.engine] s (continueAt p { l with doneBits := 0x01#8 } s) := by
  have polls : microSteps [.pollDone] l s = some ({ l with doneBits := 0x01#8 }, s) := by
    rw [microSteps_cons (microStep_pollDone (by rw [h]; decide)), h]
    rfl
  exact reaches_plan (List.cons_ne_nil _ _) hs.faulted hs.disp polls

/-- The last event of a block without an error (rule R133), then the test at `DONE`. -/
theorem reaches_blockDone {p : Point} {l : Locals} {s : State} (hs : s.Free) (hphase : s.hid.dataPhase ≠ .none)
    (hleft : s.hid.wordsLeft = 0) (htier : s.hid.dataTier = .sb) (hclear : s.regs.sbisr = 0#8) :
    Reaches s (.run [.pollDone] p l) [.event (.dataDone false false), .engine] s.blockDone
      (continueAt p { l with doneBits := 0x01#8 } s.blockDone) := by
  have ended := reaches_event (todo := [.pollDone]) (p := p) (l := l) hs.faulted (controllerStep_dataDone hphase hleft htier)
  refine ended.trans (reaches_done ⟨hs.faulted, hs.disp, hs.cmdPhase⟩ ?_)
  show s.regs.sbisr ||| maskDone = 0x01#8
  rw [hclear]
  decide

/-! ### The words go out -/

/-- These words have gone to DEVICE, and the write FIFO now holds `more` (rule R131). -/
def State.handedOver (s : State) (ws more : List Word) : State :=
  (s.setHid { s.hid with wfifo := more, wordsLeft := s.hid.wordsLeft - ws.length }).setDeviceWords (s.deviceWords ++ ws)

theorem State.handedOver_handedOver (s : State) (w : Word) (ws more : List Word) :
    (s.handedOver [w] (ws ++ more)).handedOver ws more = s.handedOver (w :: ws) more := by
  simp only [State.handedOver, State.setHid, State.setDeviceWords, List.append_assoc, List.singleton_append,
    List.length_cons, List.length_nil, Nat.zero_add, Nat.sub_sub, Nat.add_comm 1]

/-- The words of an open write phase, one event each. -/
theorem reaches_handedOver {ws more : List Word} {todo : List Micro} {p : Point} {l : Locals} {s : State}
    (hf : s.faulted = none) (hphase : s.hid.dataPhase = .write) (hleft : ws.length ≤ s.hid.wordsLeft)
    (hfifo : s.hid.wfifo = ws ++ more) :
    Reaches s (.run todo p l) (List.replicate ws.length (.event .wordOut)) (s.handedOver ws more) (.run todo p l) := by
  induction ws generalizing s with
  | nil =>
    have same : s.handedOver [] more = s := by
      simp only [State.handedOver, List.append_nil, List.length_nil, Nat.sub_zero, ← hfifo.trans (List.nil_append more)]
      rfl
    rw [same]
    exact .refl s _
  | cons w ws ih =>
    rw [List.length_cons] at hleft
    have first := reaches_event (e := .wordOut) (t := s.handedOver [w] (ws ++ more)) (todo := todo) (p := p) (l := l) hf
      (wordOut_eq_some hphase (by omega) hfifo)
    have others := ih (s := s.handedOver [w] (ws ++ more)) hf hphase
      (show ws.length ≤ s.hid.wordsLeft - 1 by omega) rfl
    rw [State.handedOver_handedOver] at others
    exact first.trans others

/-! ### A block write -/

/-- A write phase of one block of `n` words is open, the write FIFO is empty and no latch of the tier is set (rule R129). -/
structure State.TakesBlock (s : State) (n : Nat) : Prop where
  free : s.Free
  dataPhase : s.hid.dataPhase = .write
  dataTier : s.hid.dataTier = .sb
  wordsLeft : s.hid.wordsLeft = n
  wfifo : s.hid.wfifo = []
  sbisr : s.regs.sbisr = 0#8

theorem State.answered_wfifo (s : State) (index : BitVec 6) (arg : Word) (p : Resp) :
    (s.answered index arg p).hid.wfifo = s.hid.wfifo := by
  rw [State.answered_hid, startDataPhase_frame]

/-- WRITE_SINGLE_BLOCK answered opens it. -/
theorem takesBlock_writeSingleBlock {s : State} (hs : s.Free) (hfifo : s.hid.wfifo = []) (arg : Word) (p : Resp) :
    (s.answered 24#6 arg p).TakesBlock s.cfg.blockWords :=
  ⟨(exchanged_answered hs 24#6 arg p).free, rfl, rfl, rfl, (s.answered_wfifo 24#6 arg p).trans hfifo, rfl⟩

/-- The words of a block in the buffer at `buf`. -/
def State.bufWords (s : State) (buf : Word) : List Word :=
  (List.range s.cfg.blockWords).map (bufWord s.cfg.littleEndian s.mem buf)

theorem State.length_bufWords (s : State) (buf : Word) : (s.bufWords buf).length = s.cfg.blockWords := by
  rw [State.bufWords, List.length_map, List.length_range]

/-- The turns of a block write after its data command: the pushes, the words to DEVICE, the end of the phase, the test. -/
def writeTurns (c : Cfg) : List Turn :=
  List.replicate c.blockWords Turn.engine ++ List.replicate c.blockWords (Turn.event .wordOut)
    ++ [Turn.event (.dataDone false false), Turn.engine]

/-- The block written: DEVICE has its words, the phase is over, `DONE` is set. -/
def State.blockWritten (s : State) (buf : Word) : State := (s.handedOver (s.bufWords buf) []).blockDone

/-- From the answer of the data command to the SEND_STATUS after the block. -/
theorem reaches_blockWritten {buf : Word} {l : Locals} {s : State} (hs : s.TakesBlock s.cfg.blockWords)
    (hroom : s.cfg.blockWords ≤ fifoDepth s.cfg) :
    ∃ l', Reaches s (.run (fillBlock s.cfg buf ++ [.pollDone]) .writeDone l) (writeTurns s.cfg) (s.blockWritten buf)
      (issueAfter [] (argRca s.cfg) 13#6 (.ready .writeAfter) l') := by
  have pushes := microSteps_fill (is := List.range s.cfg.blockWords) (buf := buf) (l := l)
    (by rw [hs.wfifo, List.length_range, List.length_nil, Nat.zero_add]; exact hroom)
  have filled := reaches_planned (m := .pollDone) (rest := []) (p := .writeDone) hs.free.faulted hs.free.disp pushes
  rw [List.length_map, List.length_range] at filled
  have handed := reaches_handedOver (ws := s.bufWords buf) (more := []) (s := s.pushed (s.bufWords buf)) (todo := [.pollDone])
    (p := .writeDone) (l := l) hs.free.faulted hs.dataPhase
    (by rw [State.length_bufWords]; exact Nat.le_of_eq hs.wordsLeft.symm)
    (by rw [State.pushed, State.setHid_hid, hs.wfifo, List.append_nil, List.nil_append])
  have overwritten : (s.pushed (s.bufWords buf)).handedOver (s.bufWords buf) [] = s.handedOver (s.bufWords buf) [] := rfl
  rw [State.length_bufWords, overwritten] at handed
  have left : (s.handedOver (s.bufWords buf) []).hid.wordsLeft = 0 := by
    show s.hid.wordsLeft - (s.bufWords buf).length = 0
    rw [hs.wordsLeft, State.length_bufWords, Nat.sub_self]
  have phase : (s.handedOver (s.bufWords buf) []).hid.dataPhase ≠ .none := by
    show s.hid.dataPhase ≠ .none
    rw [hs.dataPhase]
    decide
  have ended := reaches_blockDone (p := .writeDone) (l := l) (s := s.handedOver (s.bufWords buf) [])
    ⟨hs.free.faulted, hs.free.disp, hs.free.cmdPhase⟩ phase left hs.dataTier hs.sbisr
  obtain ⟨-, -, good⟩ := afterWriteDone_cases (l := { l with doneBits := 0x01#8 }) (b := 0x01#8) rfl (s.blockWritten buf)
  rw [continueAt, ← State.blockWritten, good rfl rfl] at ended
  exact ⟨_, (filled.trans handed).trans ended⟩

/-! ### A block read -/

/-- The index of a block read's data command (rule R201): SEND_EXT_CSD for the sentinel, READ_SINGLE_BLOCK for any other
sector. -/
def IsReadCommand (c : Cfg) (sector : Word) (index : BitVec 6) : Prop :=
  index = 8#6 ∧ sector = c.extCsdSentinel ∨ index = 17#6 ∧ sector ≠ c.extCsdSentinel

theorem readCommand_cases (sector : Word) (dest : Dest) (c : Cfg) :
    ∃ index arg, IsReadCommand c sector index
      ∧ ∀ (l : Locals) (s : State), s.cfg = c → readCommand sector dest l s = issueAfter [] arg index (.readCmd dest) l := by
  obtain h | h := Decidable.em (sector = c.extCsdSentinel)
  · exact ⟨8#6, argZero, .inl ⟨rfl, h⟩, fun l s hc => readCommand_sentinel dest l (hc ▸ h)⟩
  · exact ⟨17#6, sector, .inr ⟨rfl, h⟩, fun l s hc => readCommand_sector dest l (hc ▸ h)⟩

/-- Both, answered, open a read phase of one block. -/
theorem awaitsBlock_readCommand {index : BitVec 6} {s : State} (hindex : index = 8#6 ∨ index = 17#6)
    (hfifo : s.hid.rfifo = []) (arg : Word) (p : Resp) : (s.answered index arg p).AwaitsBlock s.cfg.blockWords := by
  obtain rfl | rfl := hindex <;> exact ⟨rfl, rfl, rfl, hfifo, rfl⟩

/-- The turns of a block read after its data command: the words from DEVICE, the end of the phase, the test, the stores. -/
def readTurns (c : Cfg) (ws : List Word) : List Turn :=
  ws.map (fun w => Turn.event (.wordIn w)) ++ [Turn.event (.dataDone false false), Turn.engine]
    ++ List.replicate c.blockWords Turn.engine

/-- The block read: its words are in the buffer, the phase is over, `DONE` is set. -/
def State.blockRead (s : State) (buf : Word) (ws : List Word) : State := (s.received ws).blockDone.drained buf 0 ws []

/-- From the answer of the data command to the SEND_STATUS after the block. -/
theorem reaches_blockRead {buf : Word} {ws : List Word} {l : Locals} {s : State} (hs : s.Free)
    (hawaits : s.AwaitsBlock ws.length) (hroom : ws.length ≤ fifoDepth s.cfg) (hlen : ws.length = s.cfg.blockWords) :
    ∃ l', Reaches s (.run [.pollDone] (.readDone (.caller buf)) l) (readTurns s.cfg ws) (s.blockRead buf ws)
      (issueAfter [] (argRca s.cfg) 13#6 (.ready (.readAfter (.caller buf))) l') := by
  obtain ⟨hphase, htier, hleft, hfifo, hclear⟩ := hawaits
  have received := reaches_received (todo := [.pollDone]) (p := .readDone (.caller buf)) (l := l) hs.faulted hphase
    (Nat.le_of_eq hleft.symm) (by rw [hfifo, List.length_nil, Nat.zero_add]; exact hroom)
  have left : (s.received ws).hid.wordsLeft = 0 := by rw [State.received, State.setHid_hid, hleft, Nat.sub_self]
  have phase : (s.received ws).hid.dataPhase ≠ .none := by
    rw [State.received, State.setHid_hid, hphase]
    decide
  have ended := reaches_blockDone (p := .readDone (.caller buf)) (l := l) (s := s.received ws)
    ⟨hs.faulted, hs.disp, hs.cmdPhase⟩ phase left htier hclear
  obtain ⟨-, -, good⟩ := afterReadDone_cases (l := { l with doneBits := 0x01#8 }) (b := 0x01#8) rfl (.caller buf)
    (s.received ws).blockDone
  rw [continueAt, good rfl rfl] at ended
  have words : (s.received ws).blockDone.hid.rfifo = ws ++ [] := by
    show s.hid.rfifo ++ ws = ws ++ []
    rw [hfifo, List.append_nil, List.nil_append]
  have stores := microSteps_drain_caller (buf := buf) (k := 0) (l := { l with doneBits := 0x01#8 }) words
  rw [hlen, ← List.range_eq_range'] at stores
  have stored := reaches_issue (arg := argRca s.cfg) (index := 13#6) (k := .ready (.readAfter (.caller buf)))
    (s := (s.received ws).blockDone) hs.faulted hs.disp stores
  rw [List.length_map, List.length_range] at stored
  exact ⟨_, (received.trans ended).trans stored⟩

/-! ### The whole of a transfer -/

/-- From `s` to `t` a block has been transferred: `out` has gone to DEVICE, caller memory is `mem`, the last command has been
answered and no data phase is open; the engine registers are as before. -/
structure Transferred (s t : State) (mem : Memory) (out : List Word) : Prop where
  frame : t = { s with regs := t.regs, hid := t.hid, mem := mem, deviceWords := s.deviceWords ++ out }
  dataPhase : t.hid.dataPhase = .none
  isr : t.regs.isr = 0x03#8
  sbisr : t.regs.sbisr = 0#8

/-- The block moved, SEND_STATUS is answered. -/
theorem transferred_sendStatus {s t : State} {mem : Memory} {out : List Word} (arg : Word) (p : Resp)
    (hframe : t = { s with regs := t.regs, hid := t.hid, mem := mem, deviceWords := s.deviceWords ++ out })
    (hphase : t.hid.dataPhase = .none) : Transferred s (t.answered 13#6 arg p) mem out where
  frame := by rw [State.answered_frame, hframe]
  dataPhase := (dataPhase_sendStatus t arg p).trans hphase
  isr := State.responded_isr (t.commandOut_isr 13#6 arg) p 1
  sbisr := rfl

/-- Commands exchanged before the transfer add nothing to it. -/
theorem Transferred.of_exchanged {s t u : State} {mem : Memory} {out : List Word} (h : Exchanged s t)
    (h' : Transferred t u mem out) : Transferred s u mem out where
  frame := by rw [h'.frame, h.frame]
  dataPhase := h'.dataPhase
  isr := h'.isr
  sbisr := h'.sbisr

section
variable {buf : Word} {p : BitVec 48} {l : Locals} {s : State}

/-- From the answer of WRITE_SINGLE_BLOCK to the end (rule R200). -/
theorem reaches_writeEnd (hs : s.TakesBlock s.cfg.blockWords) (hroom : s.cfg.blockWords ≤ fifoDepth s.cfg)
    (hp : AnswersReady s.cfg 13#6 p) :
    ∃ t, Reaches s (.run (fillBlock s.cfg buf ++ [.pollDone]) .writeDone l)
        (writeTurns s.cfg ++ answeredCommand (.short p) 6) t (.finish (some (.errCode .transferSuccess)))
      ∧ Transferred s t s.mem (s.bufWords buf) ∧ t.hid.wfifo = [] := by
  obtain ⟨l₁, written⟩ := reaches_blockWritten (buf := buf) (l := l) hs hroom
  have free : (s.blockWritten buf).Free := ⟨hs.free.faulted, hs.free.disp, hs.free.cmdPhase⟩
  obtain ⟨l₂, ended, -⟩ := reaches_ready (arg := argRca s.cfg) (k := .ready .writeAfter) (l := l₁) free (by decide) hp
  exact ⟨_, written.trans ended, transferred_sendStatus (t := s.blockWritten buf) _ _ rfl rfl,
    State.answered_wfifo _ _ _ _⟩

/-- From the answer of a read's data command to the end (rule R201). -/
theorem reaches_readEnd {ws : List Word} (hs : s.Free) (hawaits : s.AwaitsBlock ws.length)
    (hroom : ws.length ≤ fifoDepth s.cfg) (hlen : ws.length = s.cfg.blockWords) (hp : AnswersReady s.cfg 13#6 p) :
    ∃ t, Reaches s (.run [.pollDone] (.readDone (.caller buf)) l) (readTurns s.cfg ws ++ answeredCommand (.short p) 6) t
        (.finish (some (.errCode .transferSuccess)))
      ∧ Transferred s t (storeWords s.cfg.littleEndian s.mem buf 0 ws) [] ∧ t.hid.rfifo = [] := by
  obtain ⟨l₁, read⟩ := reaches_blockRead (buf := buf) (l := l) hs hawaits hroom hlen
  have free : (s.blockRead buf ws).Free := ⟨hs.faulted, hs.disp, hs.cmdPhase⟩
  obtain ⟨l₂, ended, -⟩ := reaches_ready (arg := argRca s.cfg) (k := .ready (.readAfter (.caller buf))) (l := l₁) free
    (by decide) hp
  refine ⟨_, read.trans ended, transferred_sendStatus (t := s.blockRead buf ws) _ _ ?_ rfl,
    (exchanged_answered free 13#6 _ _).rfifo⟩
  rw [List.append_nil]
  rfl

end

/-- What follows the two commands before the block of a write (rule R200). -/
theorem resume_writeBefore (buf sector : Word) (l : Locals) (s : State) :
    resume (.ready (.writeBefore buf sector)) .success l s = issueAfter [] sector 24#6 (.writeCmd buf) l := rfl

theorem resume_writeCmd (buf : Word) (l : Locals) (s : State) :
    resume (.writeCmd buf) .success l s = .run (fillBlock s.cfg buf ++ [Micro.pollDone]) .writeDone l := rfl

section
variable {buf sector : Word} {p₁ p₂ p₃ : BitVec 48} {l : Locals} {s : State}

/-- A block write with the write FIFO empty and every command answered (rule R200). -/
theorem reaches_writeSuccess (hs : s.Free) (hfifo : s.hid.wfifo = []) (hroom : s.cfg.blockWords ≤ fifoDepth s.cfg)
    (hp₁ : AnswersReady s.cfg 13#6 p₁) (hp₂ : AnswersReady s.cfg 24#6 p₂) (hp₃ : AnswersReady s.cfg 13#6 p₃) :
    ∃ t, Reaches s (issueAfter [] (argRca s.cfg) 13#6 (.ready (.writeBefore buf sector)) l)
        (answeredCommand (.short p₁) 6 ++ answeredCommand (.short p₂) 6
          ++ (writeTurns s.cfg ++ answeredCommand (.short p₃) 6))
        t (.finish (some (.errCode .transferSuccess)))
      ∧ Transferred s t s.mem (s.bufWords buf) ∧ t.hid.wfifo = [] := by
  obtain ⟨l₁, ready, -⟩ := reaches_ready (index := 13#6) (arg := argRca s.cfg) (k := .ready (.writeBefore buf sector))
    (l := l) hs (by decide) hp₁
  rw [resume_writeBefore] at ready
  have kept₁ := exchanged_answered hs 13#6 (argRca s.cfg) (.short p₁)
  obtain ⟨l₂, asked, -⟩ := reaches_ready (index := 24#6) (arg := sector) (k := .writeCmd buf) (p := p₂) (l := l₁) kept₁.free
    (by decide) (by rw [kept₁.cfg]; exact hp₂)
  rw [resume_writeCmd] at asked
  have takes := takesBlock_writeSingleBlock kept₁.free ((s.answered_wfifo 13#6 _ _).trans hfifo) sector (.short p₂)
  have kept := kept₁.trans (exchanged_answered kept₁.free 24#6 sector (.short p₂))
  obtain ⟨t, written, moved, empty⟩ := reaches_writeEnd (buf := buf) (l := l₂) (p := p₃) takes
    (by rw [kept.cfg]; exact hroom) (by rw [kept.cfg]; exact hp₃)
  rw [kept.cfg] at asked written
  rw [State.bufWords, kept.cfg, kept.mem] at moved
  exact ⟨t, (ready.trans asked).trans written, moved.of_exchanged kept, empty⟩

/-- A block read with the read FIFO empty and every command answered (rule R201). -/
theorem reaches_readSuccess {ws : List Word} (hs : s.Free) (hfifo : s.hid.rfifo = [])
    (hroom : s.cfg.blockWords ≤ fifoDepth s.cfg) (hlen : ws.length = s.cfg.blockWords) (hp₁ : AnswersReady s.cfg 13#6 p₁)
    (hp₂ : ∀ index, IsReadCommand s.cfg sector index → AnswersReady s.cfg index p₂)
    (hp₃ : AnswersReady s.cfg 13#6 p₃) :
    ∃ t, Reaches s (issueAfter [] (argRca s.cfg) 13#6 (.ready (.readBefore sector (.caller buf))) l)
        (answeredCommand (.short p₁) 6 ++ answeredCommand (.short p₂) 6
          ++ (readTurns s.cfg ws ++ answeredCommand (.short p₃) 6))
        t (.finish (some (.errCode .transferSuccess)))
      ∧ Transferred s t (storeWords s.cfg.littleEndian s.mem buf 0 ws) [] ∧ t.hid.rfifo = [] := by
  obtain ⟨index, arg, hindex, command⟩ := readCommand_cases sector (.caller buf) s.cfg
  have hopens : index = 8#6 ∨ index = 17#6 := hindex.imp And.left And.left
  have hclass : respClass index = some .r1 ∨ respClass index = some .r1b := by
    obtain rfl | rfl := hopens <;> decide
  obtain ⟨l₁, ready, -⟩ := reaches_ready (index := 13#6) (arg := argRca s.cfg)
    (k := .ready (.readBefore sector (.caller buf))) (l := l) hs (by decide) hp₁
  have kept₁ := exchanged_answered hs 13#6 (argRca s.cfg) (.short p₁)
  have next : resume (.ready (.readBefore sector (.caller buf))) .success l₁ (s.answered 13#6 (argRca s.cfg) (.short p₁))
      = issueAfter [] arg index (.readCmd (.caller buf)) l₁ := command l₁ _ kept₁.cfg
  rw [next] at ready
  obtain ⟨l₂, asked, -⟩ := reaches_ready (arg := arg) (k := .readCmd (.caller buf)) (p := p₂) (l := l₁) kept₁.free hclass
    (by rw [kept₁.cfg]; exact hp₂ index hindex)
  have awaits := awaitsBlock_readCommand hopens (kept₁.rfifo.trans hfifo) arg (.short p₂)
  rw [kept₁.cfg, ← hlen] at awaits
  have kept := kept₁.trans (exchanged_answered kept₁.free index arg (.short p₂))
  obtain ⟨t, read, moved, empty⟩ := reaches_readEnd (buf := buf) (l := l₂) (p := p₃) kept.free awaits
    (by rw [hlen, kept.cfg]; exact hroom) (by rw [hlen, kept.cfg]) (by rw [kept.cfg]; exact hp₃)
  rw [kept.cfg] at read
  rw [kept.cfg, kept.mem] at moved
  exact ⟨t, (ready.trans asked).trans read, moved.of_exchanged kept, empty⟩

end

/-- Settles O58: the tests pass, the write FIFO is emptied, and the block goes out between the commands. -/
theorem blockingWriteHandsTheBlockToTheDevice : Obligations.BlockingWriteHandsTheBlockToTheDevice := by
  rintro s buf sector p1 p2 p3 schedule ⟨hf, -, hd, -⟩ hinit hidle hfits hphase hroom h1 h2 h3 r1 r2 r3 rfl
  have reset := reaches_issue (index := 13#6) (arg := argRca s.cfg) (k := .ready (.writeBefore buf sector))
    (s := s.setResult none) hf hd (microSteps_cons (microStep_writeReset Locals.start _) [])
  obtain ⟨t, success, ⟨frame, phase, isr, sbisr⟩, fifo⟩ := reaches_writeSuccess (buf := buf) (sector := sector)
    (l := Locals.start) (s := (s.setResult none).writeReset) ⟨hf, hd, hphase⟩ rfl hroom ⟨h1, r1⟩ ⟨h2, r2⟩ ⟨h3, r3⟩
  have ran := (reset.trans success) []
  refine ⟨_, t.decided [] (.finish (some (.errCode .transferSuccess))),
    (exec_sbw true buf sector s).trans (blockingTransfer_passes hinit hidle hfits), ?run, rfl, rfl, ?words, fifo,
    phase, isr, sbisr, ?st, ?inst, ?mem⟩
  case run =>
    simp only [writeTurns, List.append_assoc, List.cons_append, List.nil_append, List.append_nil] at ran ⊢
    exact ran
  case words => exact (congrArg State.deviceWords frame :)
  case st => exact (congrArg State.st frame :)
  case inst => exact (congrArg State.inst frame :)
  case mem => exact (congrArg State.mem frame :)

/-- Settles O59: the tests pass, the read FIFO is emptied, and the block comes in between the commands. -/
theorem blockingReadFillsTheBuffer : Obligations.BlockingReadFillsTheBuffer := by
  rintro s buf sector p1 p2 p3 ws schedule ⟨hf, -, hd, -⟩ hinit hidle hfits hphase hroom hwf hlen h1 hsentinel hsector h3 r1
    r2 r3 rfl
  have reset := reaches_issue (index := 13#6) (arg := argRca s.cfg) (k := .ready (.readBefore sector (.caller buf)))
    (s := s.setResult none) hf hd (microSteps_cons (microStep_readReset Locals.start _) [])
  have answers (index : BitVec 6) : IsReadCommand s.cfg sector index → AnswersReady s.cfg index p2 := by
    rintro (⟨rfl, h⟩ | ⟨rfl, h⟩)
    · exact ⟨hsentinel h, r2⟩
    · exact ⟨hsector h, r2⟩
  obtain ⟨t, success, ⟨frame, phase, isr, sbisr⟩, fifo⟩ := reaches_readSuccess (buf := buf) (sector := sector)
    (l := Locals.start) (s := (s.setResult none).readReset) ⟨hf, hd, hphase⟩ rfl hroom hlen ⟨h1, r1⟩ answers ⟨h3, r3⟩
  have ran := (reset.trans success) []
  have mem : t.mem = storeWords s.cfg.littleEndian s.mem buf 0 ws := congrArg State.mem frame
  refine ⟨_, t.decided [] (.finish (some (.errCode .transferSuccess))),
    (exec_sbr true sector buf s).trans (blockingTransfer_passes hinit hidle hfits), ?run, rfl, rfl,
    fun i hi => ?word, fun a houtside => ?other, fifo, phase, isr, sbisr, ?words, ?st, ?inst⟩
  case run =>
    simp only [readTurns, List.append_assoc, List.cons_append, List.nil_append, List.append_nil] at ran ⊢
    exact ran
  case word =>
    have word := bufWord_storeWords (le := s.cfg.littleEndian) (b := buf) (k := 0) hwf (hlen ▸ hi)
    rw [Nat.zero_add, ← mem] at word
    exact word
  case other =>
    show t.mem.read a = _
    rw [mem]
    exact read_storeWords_other hwf (by rwa [hlen, Nat.mul_zero, Nat.add_zero, Nat.zero_add])
  case words => exact (congrArg State.deviceWords frame).trans (List.append_nil _)
  case st => exact (congrArg State.st frame :)
  case inst => exact (congrArg State.inst frame :)

end Sys2Proof.Machine
end

section
/-! The Status record while an operation or a delivery is part-way (44_nonblocking_transfers.md rule R225): the assignments a
context has planned are made one by one in their order, a delivery never sets the code and the state at odds, and no plan of
ENGINE notices a delivery that has come between its steps, but for a start operation half done (log entry 29). -/

namespace Sys2Proof.Machine

/-! ### Assignments one after another -/

theorem applySt_append (a b : List Micro) (t : Status) : applySt (a ++ b) t = applySt b (applySt a t) := by
  induction a generalizing t with
  | nil => rfl
  | cons m rest ih => cases m <;> exact ih _

/-- What every assignment of the plan preserves, the plan preserves. -/
theorem applySt_preserves {P : Status → Prop} {todo : List Micro} {t : Status}
    (h : ∀ u, Micro.setSt u ∈ todo → ∀ r, P r → P (updateSt u r)) (ht : P t) : P (applySt todo t) := by
  induction todo generalizing t with
  | nil => exact ht
  | cons m rest ih =>
    have hrest := fun u hu => h u (List.mem_cons_of_mem m hu)
    cases m
    case setSt u => exact ih hrest (h u List.mem_cons_self t ht)
    all_goals exact ih hrest ht

/-- A plan that assigns `st.state` assigns it the same whatever record it begins with, -/
theorem applySt_state_congr {todo : List Micro} {t t' : Status} (h : assignsState todo = true ∨ t.state = t'.state) :
    (applySt todo t).state = (applySt todo t').state := by
  induction todo generalizing t t' with
  | nil => exact h.resolve_left Bool.false_ne_true
  | cons m rest ih =>
    cases m
    case setSt u =>
      cases u
      case state v => exact ih (.inr rfl)
      all_goals exact ih h
    all_goals exact ih h

/-- and so with `st.err_state`. -/
theorem applySt_errState_congr {todo : List Micro} {t t' : Status}
    (h : assignsErrState todo = true ∨ t.errState = t'.errState) :
    (applySt todo t).errState = (applySt todo t').errState := by
  induction todo generalizing t t' with
  | nil => exact h.resolve_left Bool.false_ne_true
  | cons m rest ih =>
    cases m
    case setSt u =>
      cases u
      case errState v => exact ih (.inr rfl)
      all_goals exact ih h
    all_goals exact ih h

theorem applySt_state_of_not_assigned {todo : List Micro} (h : assignsState todo = false) (t : Status) :
    (applySt todo t).state = t.state := by
  refine applySt_preserves (P := fun r => r.state = t.state) (fun u hu r hr => ?_) rfl
  cases u
  case state v => exact absurd rfl (List.any_eq_false.1 h _ hu)
  all_goals exact hr

theorem applySt_errState_of_not_assigned {todo : List Micro} (h : assignsErrState todo = false) (t : Status) :
    (applySt todo t).errState = t.errState := by
  refine applySt_preserves (P := fun r => r.errState = t.errState) (fun u hu r hr => ?_) rfl
  cases u
  case errState v => exact absurd rfl (List.any_eq_false.1 h _ hu)
  all_goals exact hr

/-- A plan that assigns a code to `st.err_state`, the marker not among those it assigns: whatever code it begins with is
overwritten. -/
theorem applySt_errState_ne_processing {todo : List Micro} (hmarker : Micro.setSt (.errState .processing) ∉ todo)
    (h : assignsErrState todo = true) (t : Status) : (applySt todo t).errState ≠ .processing := by
  rw [applySt_errState_congr (t' := { t with errState := .transferSuccess }) (.inl h)]
  refine applySt_preserves (P := fun r => r.errState ≠ .processing) (fun u hu r hr => ?_) (by simp)
  cases u
  case errState w => exact fun hw : w = .processing => hmarker (hw ▸ hu)
  all_goals exact hr

theorem applySt_tempErr_ne_processing {todo : List Micro} {t : Status}
    (hmarker : Micro.setSt (.tempErr .processing) ∉ todo) (h : t.tempErr ≠ .processing) :
    (applySt todo t).tempErr ≠ .processing := by
  refine applySt_preserves (P := fun r => r.tempErr ≠ .processing) (fun u hu r hr => ?_) h
  cases u
  case tempErr w => exact fun hw : w = .processing => hmarker (hw ▸ hu)
  all_goals exact hr

/-! ### The order of a plan -/

theorem stateThenErrState_of_append {a b : List Micro} (h : stateThenErrState (a ++ b) = true) :
    stateThenErrState b = true := by
  induction a with
  | nil => exact h
  | cons m rest ih =>
    cases m
    case setSt u =>
      cases u
      case state v => exact ih (Bool.and_eq_true_iff.1 h).2
      all_goals exact ih h
    all_goals exact ih h

/-- Where each assigned state has its code after it, a plan that assigns a state assigns a code. -/
theorem assignsErrState_of_assignsState {todo : List Micro} (horder : stateThenErrState todo = true)
    (h : assignsState todo = true) : assignsErrState todo = true := by
  induction todo with
  | nil => cases h
  | cons m rest ih =>
    cases m
    case setSt u =>
      cases u
      case state v => exact (Bool.and_eq_true_iff.1 horder).1
      case errState v => rfl
      all_goals exact ih horder h
    all_goals exact ih horder h

/-! ### Where a step leaves a context's plan -/

/-- A step of a context has made the assignments of the part of the plan that it has done, the whole of it where a test is
made. -/
inductive CtxProgress (c : Ctx) (s : State) : CtxResult → Prop where
  | planned {c' : Ctx} {t : State} (done : List Micro) (htodo : c.todo = done ++ c'.todo) (hpoint : c'.point = c.point)
      (hst : t.st = applySt done s.st) : CtxProgress c s (.running c' t)
  | tested {c' : Ctx} {t : State} (l : Locals) (hst : t.st = applySt c.todo s.st)
      (h : continueAt c.point l t = .run c'.todo c'.point c'.locals) : CtxProgress c s (.running c' t)
  | ended {v : Option Ret} {t : State} (hst : t.st = applySt c.todo s.st) : CtxProgress c s (.finished v t)
  | refused (r : Refusal) : CtxProgress c s (.refused r)

theorem settle_progress {c : Ctx} {s t : State} (l : Locals) (hst : t.st = applySt c.todo s.st) :
    CtxProgress c s (settle c.point l t) := by
  unfold settle
  split
  · next h => exact .tested l hst h
  · exact .ended hst

/-- A step is done, with its assignment; or it is a loop that stays, and no assignment. -/
theorem microStep_progress {m : Micro} {l l' : Locals} {more : List Micro} {s t : State}
    (h : microStep m l s = .next more l' t) :
    (more = [] ∧ t.st = applySt [m] s.st) ∨ (more = [m] ∧ t.st = s.st) := by
  have hst := microStep_st h
  obtain hdone | hstays := microStep_more h
  · exact .inl ⟨hdone, hst⟩
  · refine .inr ⟨hstays, ?_⟩
    cases m
    case setSt u => cases h; cases hstays
    all_goals exact hst

theorem ctxStep_progress (c : Ctx) (s : State) : CtxProgress c s (ctxStep c s) := by
  unfold ctxStep
  split
  · next htodo => exact settle_progress _ (by rw [htodo]; rfl)
  next m rest htodo =>
    split
    · exact .refused _
    next more l t hm =>
      obtain ⟨rfl, hst⟩ | ⟨rfl, hst⟩ := microStep_progress hm
      · cases rest with
        | nil => exact settle_progress l (by rw [htodo]; exact hst)
        | cons m' todo => exact .planned [m] htodo rfl hst
      · exact .planned [] htodo rfl hst

/-! ### States in flight, and codes that are not the marker -/

theorem terminal_eq_false_iff (v : FsmState) : v.terminal = false ↔ v ≠ .idle ∧ v ≠ .error := by
  cases v <;> decide

/-- A chain's states are in flight (10_state.md rule R24). -/
theorem terminal_of_chain {v : FsmState} {x : Chain} {k : ChainStep} (h : v.chain? = some (x, k)) :
    v.terminal = false := by
  refine (terminal_eq_false_iff v).2 ⟨?_, ?_⟩
  all_goals
    rintro rfl
    cases h

theorem parseStatus_terminal (x : Chain) : x.parseStatus.terminal = false := by cases x <;> rfl
theorem issueData_terminal (x : Chain) : x.issueData.terminal = false := by cases x <;> rfl
theorem awaitDone_terminal (x : Chain) : x.awaitDone.terminal = false := by cases x <;> rfl
theorem afterStatus_terminal (x : Chain) : x.afterStatus.terminal = false := by cases x <;> rfl

theorem failCode_ne_processing (x : Chain) : x.failCode ≠ .processing := by cases x <;> decide

theorem classify_ne_processing (c b : Byte) : classify c b ≠ .processing := by
  unfold classify
  split
  · decide
  · split
    · decide
    · split <;> decide

/-! ### What a delivery does to the Status record -/

/-- From `t` to `t'` the code and the state are not set at odds, no terminal state is left, and the holding slot does not get
the marker. -/
structure Status.KeptByDelivery (t t' : Status) : Prop where
  agrees : t.InFlightAgrees → t'.InFlightAgrees
  terminal : t.state.terminal = true → t'.state.terminal = true
  temp : t'.tempErr ≠ .processing

theorem Status.KeptByDelivery.refl {t : Status} (h : t.tempErr ≠ .processing) : t.KeptByDelivery t :=
  ⟨id, id, h⟩

/-- From one state that is in flight to another: the code stays. -/
theorem Status.KeptByDelivery.of_in_flight {t t' : Status} (h : t.state.terminal = false)
    (h' : t'.state.terminal = false) (herr : t'.errState = t.errState) (htemp : t'.tempErr ≠ .processing) :
    t.KeptByDelivery t' where
  agrees ht := by
    rw [InFlightAgrees, h] at ht
    rwa [InFlightAgrees, herr, h']
  terminal hterm := by rw [h] at hterm; cases hterm
  temp := htemp

/-- To a terminal state, with a code other than the marker. -/
theorem Status.KeptByDelivery.of_terminal {t t' : Status} (h' : t'.state.terminal = true)
    (herr : t.InFlightAgrees → t'.errState ≠ .processing) (htemp : t'.tempErr ≠ .processing) : t.KeptByDelivery t' where
  agrees ht := by simp [InFlightAgrees, h', herr ht]
  terminal _ := h'
  temp := htemp

/-- What a test of a delivery decides, from the record `t`: a plan that keeps it; and on the way to a checkpoint, which a state
in flight alone comes to, the plan assigns nothing of `st`. -/
def Decision.KeepsStatus (t : Status) : Decision → Prop
  | .run todo p _ =>
    t.KeptByDelivery (applySt todo t)
    ∧ (p.ofDelivery = true → ∀ u, Micro.setSt u ∉ todo)
    ∧ ∀ x k, p = .checkpoint x k → t.state.terminal = false
  | .finish _ => True

/-- The plan of a delivery's last leg. -/
theorem deliver_keepsStatus {todo : List Micro} {t : Status} (l : Locals) (h : t.KeptByDelivery (applySt todo t)) :
    (deliver todo l).KeepsStatus t :=
  ⟨h, fun hp => (Bool.false_ne_true hp).elim, fun _ _ hp => nomatch hp⟩

/-! ### What the tests of a delivery decide -/

section
variable {t : Status} (l : Locals)

/-- `terminal()` (45_interrupt_state_machine.md rule R237): the code of an Idle state is replaced, that of an Error state is not
the marker. -/
theorem terminal_keepsStatus (wasIdle : Bool) (hterm : t.state.terminal = true) (htemp : t.tempErr ≠ .processing) :
    (terminal wasIdle l).KeepsStatus t := by
  refine deliver_keepsStatus l ?_
  cases wasIdle
  · refine .of_terminal rfl (fun ht herr => ?_) htemp
    rw [ht.1 herr] at hterm
    cases hterm
  · exact .of_terminal rfl (fun _ => (by decide : ErrCode.intStatusFail ≠ .processing)) htemp

/-- `abort(code)` (rule R240). -/
theorem abort_keepsStatus {code : ErrCode} (hflight : t.state.terminal = false) (hcode : code ≠ .processing) :
    (abort code l).KeepsStatus t :=
  deliver_keepsStatus l (.of_in_flight hflight rfl rfl hcode)

/-- `advance(next, arg, cmd)` (rule R249). -/
theorem advance_keepsStatus {next : FsmState} (hflight : t.state.terminal = false) (hnext : next.terminal = false)
    (htemp : t.tempErr ≠ .processing) (arg : Word) (index : BitVec 6) : (advance next arg index l).KeepsStatus t :=
  deliver_keepsStatus l (.of_in_flight hflight hnext rfl htemp)

/-- `complete()` (rule R246). -/
theorem complete_keepsStatus (htemp : t.tempErr ≠ .processing) : (complete l).KeepsStatus t :=
  deliver_keepsStatus l (.of_terminal rfl (fun _ => (by decide : ErrCode.transferSuccess ≠ .processing)) htemp)

theorem expectedEvent_keepsStatus (hflight : t.state.terminal = false) (htemp : t.tempErr ≠ .processing) (x : Chain)
    (k : ChainStep) : (expectedEvent x k l).KeepsStatus t := by
  unfold expectedEvent
  split
  case h_4 =>
    split
    · trivial
    · exact complete_keepsStatus l htemp
  all_goals
    split
    · trivial
    · split
      · exact abort_keepsStatus l hflight (by decide)
      · exact ⟨.refl htemp, fun _ => LeavesSt.not_mem rfl, fun _ _ _ => hflight⟩

end

/-- `dispatch` (rule R236); the code an abort ends with (rule R238) is not the marker. -/
theorem dispatch_keepsStatus (l : Locals) {s : State} (htemp : s.st.tempErr ≠ .processing) :
    (dispatch l s).KeepsStatus s.st := by
  unfold dispatch
  split
  · next hidle => exact terminal_keepsStatus l true (by rw [hidle]; rfl) htemp
  · next herror => exact terminal_keepsStatus l false (by rw [herror]; rfl) htemp
  · exact deliver_keepsStatus l (.of_terminal rfl (fun _ => htemp) htemp)
  · split
    · trivial
    · next x k hchain =>
      have hflight := terminal_of_chain hchain
      split
      · exact abort_keepsStatus l hflight (classify_ne_processing _ _)
      · exact expectedEvent_keepsStatus l hflight htemp x k

/-- The checkpoints (rules R242 to R244), which a state in flight alone comes to. -/
theorem checkpoint_keepsStatus (x : Chain) (k : ChainStep) (l : Locals) {s : State}
    (hflight : s.st.state.terminal = false) (htemp : s.st.tempErr ≠ .processing) :
    (checkpoint x k l s).KeepsStatus s.st := by
  unfold checkpoint
  split
  · exact abort_keepsStatus l hflight (failCode_ne_processing x)
  · split
    · split
      · exact advance_keepsStatus l hflight (parseStatus_terminal x) htemp _ _
      · split <;> exact advance_keepsStatus l hflight (afterStatus_terminal x) htemp _ _
    · exact advance_keepsStatus l hflight (issueData_terminal x) htemp _ _
    · exact deliver_keepsStatus l (.of_in_flight hflight (awaitDone_terminal x) rfl htemp)
    · trivial

/-! ### A delivery between two steps of ENGINE -/

/-- ENGINE's plan brings code and state together from the record a delivery leaves where it does so from the record before: a
plan that assigns the state assigns the code as well; one that assigns the code alone assigns no marker, so the state was
terminal, and is still. -/
theorem inFlightAgrees_after_delivery {todo : List Micro} {t t' : Status} (horder : stateThenErrState todo = true)
    (hhalf : ¬ (Micro.setSt (.errState .processing) ∈ todo ∧ assignsState todo = false)) (hkept : t.KeptByDelivery t')
    (h : (applySt todo t).InFlightAgrees) : (applySt todo t').InFlightAgrees := by
  cases hstate : assignsState todo with
  | true =>
    have herr := assignsErrState_of_assignsState horder hstate
    rwa [Status.InFlightAgrees, ← applySt_state_congr (.inl hstate), ← applySt_errState_congr (.inl herr)]
  | false =>
    rw [Status.InFlightAgrees, applySt_state_of_not_assigned hstate] at h ⊢
    cases herr : assignsErrState todo with
    | true =>
      have hmarker : Micro.setSt (.errState .processing) ∉ todo := fun hm => hhalf ⟨hm, hstate⟩
      have hcode := applySt_errState_ne_processing hmarker herr
      have hterm : t.state.terminal = true := by simpa [hcode] using h
      simp [hcode, hkept.terminal hterm]
    | false =>
      rw [applySt_errState_of_not_assigned herr] at h ⊢
      exact hkept.agrees h

/-! ### ENGINE's plan -/

/-- What `StatusInv` says of a plan of ENGINE still to be carried out from the record `t`. -/
structure PlanAgrees (todo : List Micro) (t : Status) : Prop where
  agrees : (applySt todo t).InFlightAgrees
  temp : t.tempErr ≠ .processing
  temp_planned : Micro.setSt (.tempErr .processing) ∉ todo
  order : stateThenErrState todo = true

/-- Part of the plan carried out. -/
theorem PlanAgrees.rest {done rest : List Micro} {t : Status} (h : PlanAgrees (done ++ rest) t) :
    PlanAgrees rest (applySt done t) where
  agrees := applySt_append done rest t ▸ h.agrees
  temp := applySt_tempErr_ne_processing (fun hm => h.temp_planned (List.mem_append_left rest hm)) h.temp
  temp_planned hm := h.temp_planned (List.mem_append_right done hm)
  order := stateThenErrState_of_append h.order

/-- The whole of it. -/
theorem PlanAgrees.done {todo : List Micro} {t : Status} (h : PlanAgrees todo t) : PlanAgrees [] (applySt todo t) :=
  PlanAgrees.rest (by rwa [List.append_nil])

/-- A plan that keeps the agreement, begun where none is to be carried out. -/
theorem PlanAgrees.begin {todo : List Micro} {t : Status} {c : Cfg} (h : PlanAgrees [] t) (hk : PlanKeeps c todo) :
    PlanAgrees todo t :=
  ⟨hk.agrees t h.agrees, h.temp, hk.temp, hk.order⟩

/-- With no delivery in progress ENGINE's plan alone matters. -/
theorem statusInv_iff_of_no_delivery {s : State} (hd : s.disp = none) :
    StatusInv s ↔ PlanAgrees (plannedSteps s.engine) s.st ∧ ∀ c, s.engine = some c → c.point.ofDelivery = false := by
  refine ⟨fun hs => ⟨⟨?_, ?_, hs.temp_planned, hs.engine_order⟩, hs.engine_point⟩, fun ⟨hplan, hpoint⟩ =>
    ⟨?_, ?_, hplan.temp_planned, hplan.order, hpoint, fun _ => hd, ?_, ?_⟩⟩
  · have h := hs.agrees
    rwa [State.plannedSt, hd] at h
  · have h := hs.temp_err
    rwa [hd] at h
  · rw [State.plannedSt, hd]
    exact hplan.agrees
  · rw [hd]
    exact hplan.temp
  · intro c hc
    cases hd.symm.trans hc
  · intro c x k hc
    cases hd.symm.trans hc

/-- With neither an operation nor a delivery in progress. -/
theorem statusInv_iff_of_idle {s : State} (he : s.engine = none) (hd : s.disp = none) :
    StatusInv s ↔ PlanAgrees [] s.st := by
  rw [statusInv_iff_of_no_delivery hd, he]
  exact and_iff_left fun _ hc => nomatch hc

/-! ### The turns -/

/-- It looks at the Status record and the two positions only. -/
theorem StatusInv.congr {s t : State} (h : StatusInv s) (hst : t.st = s.st) (he : t.engine = s.engine)
    (hd : t.disp = s.disp) : StatusInv t := by
  cases h
  constructor <;> simp only [State.plannedSt, halfStarted, hst, he, hd] <;> assumption

/-- An operation in progress, its plan and its point given. -/
theorem setEngine_statusInv {s : State} {c : Ctx} (hd : s.disp = none) (hplan : PlanAgrees c.todo s.st)
    (hpoint : c.point.ofDelivery = false) : StatusInv (s.setEngine (some c)) :=
  (statusInv_iff_of_no_delivery (s := s.setEngine (some c)) hd).2 ⟨hplan, by rintro _ ⟨⟩; exact hpoint⟩

/-- ENGINE goes on with the rest of its plan, or with the plan its test leads to. -/
theorem engineStep_statusInv {s t : State} (hs : StatusInv s) (hd : s.disp = none) (h : engineStep s = .next t) :
    StatusInv t := by
  obtain ⟨-, rfl⟩ | ⟨c, u, he, hc⟩ := engineStep_cases h
  · exact hs
  obtain ⟨hplan, hpoint⟩ := (statusInv_iff_of_no_delivery hd).1 hs
  replace hpoint := hpoint c he
  replace hplan : PlanAgrees c.todo s.st := by rwa [he] at hplan
  have hdisp : (ctxStep c s).state? = some u → u.disp = none := fun hu => by rw [ctxStep_frame hu]; exact hd
  have progress := ctxStep_progress c s
  obtain ⟨c', hrun, rfl⟩ | ⟨v, hfin, rfl⟩ := hc
  · suffices hnext : PlanAgrees c'.todo u.st ∧ c'.point.ofDelivery = false from
      setEngine_statusInv (hdisp (congrArg CtxResult.state? hrun)) hnext.1 hnext.2
    rw [hrun] at progress
    cases progress with
    | planned done htodo hpoint' hst =>
      rw [htodo] at hplan
      exact ⟨hst ▸ hplan.rest, hpoint' ▸ hpoint⟩
    | tested l hst hdecided =>
      have keeps := continueAt_keeps hpoint l u
      rw [hdecided] at keeps
      obtain ⟨hnext, hpoint'⟩ := keeps
      exact ⟨(hst ▸ hplan.done).begin hnext, hpoint'⟩
  · rw [hfin] at progress
    cases progress with
    | ended hst =>
      exact (statusInv_iff_of_idle (s := (u.setEngine none).setResult v) rfl (hdisp (congrArg CtxResult.state? hfin))).2
        (hst ▸ hplan.done)

/-- With a delivery in progress: ENGINE's position stays, and is not that of a start operation half done. -/
theorem StatusInv.of_delivery {s : State} (hs : StatusInv s) (hd : s.disp ≠ none) {u : State} (d : Option Ctx)
    (he : u.engine = s.engine) (hkept : (applySt (plannedSteps s.disp) s.st).KeptByDelivery (applySt (plannedSteps d) u.st))
    (hbefore : ∀ c, d = some c → c.point.ofDelivery = true → ∀ a, Micro.setSt a ∉ c.todo)
    (hcheckpoint : ∀ c x k, d = some c → c.point = .checkpoint x k → u.st.state.terminal = false) :
    StatusInv (u.setDisp d) where
  agrees := by
    rw [State.plannedSt, State.setDisp_engine, he]
    exact inFlightAgrees_after_delivery hs.engine_order (fun h => hd (hs.half_started h)) hkept hs.agrees
  temp_err := hkept.temp
  temp_planned := by rw [State.setDisp_engine, he]; exact hs.temp_planned
  engine_order := by rw [State.setDisp_engine, he]; exact hs.engine_order
  engine_point := by rw [State.setDisp_engine, he]; exact hs.engine_point
  half_started h := by
    rw [halfStarted, State.setDisp_engine, he] at h
    exact absurd (hs.half_started h) hd
  before_test := hbefore
  at_checkpoint := hcheckpoint

/-- Every test a delivery comes to keeps the record; a checkpoint, where the state is in flight. -/
theorem continueAt_keepsStatus {p : Point} (hp : deliveryPoint p = true) (l : Locals) {s : State}
    (htemp : s.st.tempErr ≠ .processing) (hflight : ∀ x k, p = .checkpoint x k → s.st.state.terminal = false) :
    (continueAt p l s).KeepsStatus s.st := by
  cases p
  case ret => trivial
  case dispatch => exact dispatch_keepsStatus l htemp
  case checkpoint x k => exact checkpoint_keepsStatus x k l (hflight x k rfl) htemp
  all_goals cases hp

/-- On the way to a checkpoint the record does not change. -/
theorem StatusInv.in_flight_at_checkpoint {s : State} {c : Ctx} {x : Chain} {k : ChainStep} {done rest : List Micro}
    (hs : StatusInv s) (hd : s.disp = some c) (hpoint : c.point = .checkpoint x k) (htodo : c.todo = done ++ rest) :
    (applySt done s.st).state.terminal = false := by
  have hleaves : LeavesSt done := .of_not_mem fun u hu =>
    hs.before_test c hd (hpoint ▸ rfl) u (htodo ▸ List.mem_append_left rest hu)
  rw [applySt_leaves hleaves]
  exact hs.at_checkpoint c x k hd hpoint

/-- DISPATCHER goes on with the rest of its plan, or with the plan its test leads to. -/
theorem dispatcherStep_statusInv {s t : State} (hi : Inv s) (hs : StatusInv s) (h : dispatcherStep s = .next t) :
    StatusInv t := by
  obtain ⟨-, rfl⟩ | ⟨c, u, hd, hc⟩ := dispatcherStep_cases h
  · exact hs
  have hbusy : s.disp ≠ none := hd ▸ Option.some_ne_none c
  have htemp : (applySt c.todo s.st).tempErr ≠ .processing := by
    have h := hs.temp_err
    rwa [hd] at h
  have hengine : (ctxStep c s).state? = some u → u.engine = s.engine := fun hu => by rw [ctxStep_frame hu]
  have progress := ctxStep_progress c s
  obtain ⟨c', hrun, rfl⟩ | ⟨v, hfin, rfl⟩ := hc
  · have keeps := hs.of_delivery hbusy (some c') (hengine (congrArg CtxResult.state? hrun))
    rw [hrun] at progress
    cases progress with
    | planned done htodo hpoint hst =>
      refine keeps ?_ ?_ ?_
      · rw [hd, plannedSteps, plannedSteps, hst, ← applySt_append, ← htodo]
        exact .refl htemp
      · rintro _ ⟨⟩ hp u hu
        exact hs.before_test c hd (hpoint ▸ hp) u (htodo ▸ List.mem_append_right done hu)
      · rintro _ x k ⟨⟩ hp
        exact hst ▸ hs.in_flight_at_checkpoint hd (hpoint ▸ hp) htodo
    | tested l hst hdecided =>
      have hpoint := (Bool.and_eq_true_iff.1 (hi.delivery c hd)).2
      have hkeeps := continueAt_keepsStatus hpoint l (s := u) (hst ▸ htemp) fun x k hp =>
        hst ▸ hs.in_flight_at_checkpoint hd hp (List.append_nil _).symm
      rw [hdecided] at hkeeps
      obtain ⟨hkept, hbefore, hcheckpoint⟩ := hkeeps
      refine keeps ?_ ?_ ?_
      · rw [hd, plannedSteps, ← hst]
        exact hkept
      · rintro _ ⟨⟩
        exact hbefore
      · rintro _ x k ⟨⟩
        exact hcheckpoint x k
  · rw [hfin] at progress
    cases progress with
    | ended hst =>
      refine hs.of_delivery hbusy none (hengine (congrArg CtxResult.state? hfin)) ?_ (fun _ hc => nomatch hc)
        fun _ _ _ hc => nomatch hc
      rw [hd, plannedSteps, plannedSteps, hst]
      exact .refl htemp

/-- A delivery entered has planned no assignment before its test. -/
theorem enterDelivery_statusInv {s : State} (hs : StatusInv s) (hd : s.disp = none) (hhalf : ¬ halfStarted s) :
    StatusInv (s.setDisp (some Ctx.deliveryStart)) := by
  obtain ⟨hplan, hpoint⟩ := (statusInv_iff_of_no_delivery hd).1 hs
  refine ⟨hplan.agrees, hplan.temp, hplan.temp_planned, hplan.order, hpoint, fun h => absurd h hhalf, ?_, ?_⟩
  · rintro _ ⟨⟩ - u
    exact LeavesSt.not_mem rfl u
  · rintro _ x k ⟨⟩ ⟨⟩

theorem enterInterrupt_statusInv {iv : Bool} {s t : State} (hs : StatusInv s) (hd : s.disp = none)
    (hhalf : ¬ halfStarted s) (h : enterInterrupt iv s = .next t) : StatusInv t := by
  unfold enterInterrupt at h
  split at h
  · cases h; exact hs.congr rfl rfl rfl
  · split at h
    · cases h
    · cases h; exact enterDelivery_statusInv hs hd hhalf

/-- An executed instruction. -/
theorem ExecResult.statusInv {s t : State} (hs : StatusInv s) (he : s.engine = none) (hd : s.disp = none)
    (h : ExecResult s t) : StatusInv t := by
  cases h with
  | assertFault reason h => subst h; exact hs.congr rfl rfl rfl
  | answered v h => subst h; exact hs.congr rfl rfl rfl
  | read r v h => subst h; rw [readReg_frame]; exact hs.congr rfl rfl rfl
  | written r w u hw h => subst h; rw [writeReg_frame hw]; exact hs.congr rfl rfl rfl
  | started p todo point hk hp h =>
    subst h
    have hplan : PlanAgrees [] s.st := (statusInv_iff_of_idle he hd).1 hs
    exact setEngine_statusInv (s := (s.setPar p).setResult none) hd (hplan.begin hk) hp
  | entered h =>
    subst h
    refine enterDelivery_statusInv hs hd fun ⟨hmarker, _⟩ => ?_
    rw [he] at hmarker
    cases hmarker

/-- Every kind of turn keeps it but the delivery of an interrupt into a start operation half done (log entry 29). -/
theorem TurnResult.statusInv {s t : State} {rest : List Turn} (hi : Inv s) (hs : StatusInv s)
    (hentry : ¬ (halfStarted s ∧ ((irq s = true ∧ ∃ iv rest, s.agenda = .deliver iv :: rest)
      ∨ ∃ iv rest, s.agenda = .hostIsr iv :: rest))) (h : TurnResult s t rest) : StatusInv t := by
  have taken : StatusInv (s.setAgenda rest) := hs.congr rfl rfl rfl
  cases h with
  | passed h => subst h; exact taken
  | dispatcher h => exact dispatcherStep_statusInv (hi.congr rfl) taken h
  | engine hd h => exact engineStep_statusInv taken hd h
  | served he hd h => exact h.statusInv taken he hd
  | delivered iv ha hirq hd h =>
    exact enterInterrupt_statusInv taken hd (fun hhalf => hentry ⟨hhalf, .inl ⟨hirq, iv, rest, ha⟩⟩) h
  | called iv ha hd h =>
    exact enterInterrupt_statusInv taken hd (fun hhalf => hentry ⟨hhalf, .inr ⟨iv, rest, ha⟩⟩) h
  | event e _ h => rw [controllerStep_frame h]; exact taken.congr rfl rfl rfl

/-! ### The statement -/

theorem statusInv_reset : StatusInv State.reset := by
  refine (statusInv_iff_of_idle rfl rfl).2 ⟨?_, by decide, List.not_mem_nil, rfl⟩
  exact ⟨(nomatch ·), (nomatch ·)⟩

/-- With nothing planned that assigns to `st`, the record is the planned one. -/
theorem StatusInv.inFlightAgrees_of_nothing_planned {s : State} (hs : StatusInv s)
    (he : ∀ u, Micro.setSt u ∉ plannedSteps s.engine) (hd : ∀ u, Micro.setSt u ∉ plannedSteps s.disp) : s.st.InFlightAgrees := by
  have h := hs.agrees
  rwa [State.plannedSt, applySt_leaves (.of_not_mem he), applySt_leaves (.of_not_mem hd)] at h

/-- Settles O10: `StatusInv` holds after reset, every kind of turn but the one left out keeps it, and with no assignment to
come it is rule R225. -/
theorem inFlightAgreesWithTheState : Obligations.InFlightAgreesWithTheState := by
  refine ⟨statusInv_reset, fun s t hi hs h hentry => ?_, fun s hs he hd => ?_⟩
  · obtain ⟨rest, -, turn⟩ := step_cases h
    exact turn.statusInv hi hs hentry
  · rw [← terminal_eq_false_iff]
    exact hs.inFlightAgrees_of_nothing_planned he hd

end Sys2Proof.Machine
end

section
/-! The start operations (44_nonblocking_transfers.md rules R215 to R220): the tests in their order, then the Status record
filled, the class's sources unmasked and SEND_STATUS sent. -/

namespace Sys2Proof.Machine

/-! ### An operation that is one plan -/

/-- A block at rest: an operation that is one plan and a return, from its request to its end. -/
theorem run_startOperation {todo : List Micro} {v : Option Ret} {l : Locals} {s t : State} {n : Nat} (hs : Quiet s)
    (hn : todo.length = n + 1) (h : microSteps todo Locals.start (s.setResult none) = some (l, t)) :
    ∃ u, startOperation todo (.ret v) s = .next u
      ∧ run (n + 1) u = .next { t with agenda := s.agenda, engine := s.engine, result := v } := by
  obtain ⟨hf, he, hd, ha⟩ := hs
  have hne : todo ≠ [] := List.ne_nil_of_length_eq_add_one hn
  have steps := microSteps_placed h s.agenda (some ⟨todo, .ret v, Locals.start⟩)
  refine ⟨_, rfl, ?_⟩
  rw [← hn, ha, he]
  refine (run_plan (s := (s.setResult none).setEngine _) hne hf hd rfl (.background _ ha) steps).trans ?_
  rfl

/-! ### The requests -/

theorem exec_sbwNb (iv : Bool) (sector t0 lim : Word) (s : State) :
    exec (.sbwNb iv sector t0 lim) s = startNb iv .sw sector 1#16 t0 lim s := rfl

/-- The chain a single read drives: the sentinel is the extended CSD's (rule R218). -/
def readChain (c : Cfg) (sector : Word) : Chain := if sector = c.extCsdSentinel then .xr else .sr

theorem exec_sbrNb (iv : Bool) (sector t0 lim : Word) (s : State) :
    exec (.sbrNb iv sector t0 lim) s = startNb iv (readChain s.cfg sector) sector 1#16 t0 lim s := rfl

theorem exec_mbw (iv : Bool) (sector : Word) (n : BitVec 16) (t0 lim : Word) (s : State) :
    exec (.mbw iv sector n t0 lim) s = startNb iv .mw sector n t0 lim s := rfl

theorem exec_mbr (iv : Bool) (sector : Word) (n : BitVec 16) (t0 lim : Word) (s : State) :
    exec (.mbr iv sector n t0 lim) s = startNb iv .mr sector n t0 lim s := rfl

section
variable {x : Chain} {sector t0 lim : Word} {n : BitVec 16} {s : State}

/-- The tests of rule R215, in their order. -/
theorem startNb_nullInstance : startNb false x sector n t0 lim s = .next { s with faulted := some .nullInstance } := rfl

theorem startNb_zeroBlockCount (hx : x.multi = true) :
    startNb true x sector 0#16 t0 lim s = .next { s with faulted := some .zeroBlockCount } := by
  simp [startNb, hx, raiseAssert, State.setFaulted]

variable (hn : (x.multi && n == 0#16) = false)
include hn

theorem startNb_zeroTimeout (hlim : tickOf s.cfg lim = 0) :
    startNb true x sector n t0 lim s = .next { s with faulted := some .zeroTimeout } := by
  simp [startNb, hn, hlim, raiseAssert, State.setFaulted]

theorem startNb_notInitialised (hlim : tickOf s.cfg lim ≠ 0) (hinit : s.initialised = false) :
    startNb true x sector n t0 lim s = .refused .notInitialised := by
  simp [startNb, hn, hlim, hinit]

theorem startNb_inFlight (hlim : tickOf s.cfg lim ≠ 0) (hinit : s.initialised = true)
    (hflight : s.st.errState = .processing) : startNb true x sector n t0 lim s = .refused .transferInFlight := by
  simp [startNb, hn, hlim, hinit, hflight]

theorem startNb_passes (hlim : tickOf s.cfg lim ≠ 0) (hinit : s.initialised = true)
    (hidle : s.st.errState ≠ .processing) :
    startNb true x sector n t0 lim s
      = startOperation (startNbSteps s.cfg x sector n (tickOf s.cfg t0) (tickOf s.cfg lim))
          (.ret (some (.errCode .processing))) s := by
  simp [startNb, hn, hlim, hinit, hidle]

end

/-- Settles O45: every request is `start_nb` of its chain, and makes the tests in their order. -/
theorem startOperationsValidateInOrder : Obligations.StartOperationsValidateInOrder := by
  rintro s sector t0 lim n _ rfl
  refine ⟨fun i hi => ?multi, fun i hi => ?single, fun i hi => ?null⟩
  case multi =>
    obtain ⟨x, hx, hexec⟩ : ∃ x : Chain, x.multi = true ∧ exec i s = startNb true x sector n t0 lim s := by
      obtain rfl | rfl := hi
      · exact ⟨.mw, rfl, exec_mbw ..⟩
      · exact ⟨.mr, rfl, exec_mbr ..⟩
    rw [hexec]
    have count (hn : n ≠ 0#16) : (x.multi && n == 0#16) = false := by simp [hn]
    refine ⟨?_, fun hn => startNb_zeroTimeout (count hn), fun hn => startNb_notInitialised (count hn),
      fun hn => startNb_inFlight (count hn)⟩
    rintro rfl
    exact startNb_zeroBlockCount hx
  case single =>
    obtain ⟨x, hexec⟩ : ∃ x : Chain, exec i s = startNb true x sector 1#16 t0 lim s := by
      obtain rfl | rfl := hi
      · exact ⟨.sw, exec_sbwNb ..⟩
      · exact ⟨_, exec_sbrNb ..⟩
    have hone : (x.multi && 1#16 == 0#16) = false := Bool.and_false x.multi
    rw [hexec]
    exact ⟨startNb_zeroTimeout hone, startNb_notInitialised hone, startNb_inFlight hone⟩
  case null =>
    obtain ⟨x, count, hexec⟩ : ∃ (x : Chain) (count : BitVec 16), exec i s = startNb false x sector count t0 lim s := by
      obtain rfl | rfl | rfl | rfl := hi
      · exact ⟨.mw, n, exec_mbw ..⟩
      · exact ⟨.mr, n, exec_mbr ..⟩
      · exact ⟨.sw, _, exec_sbwNb ..⟩
      · exact ⟨_, _, exec_sbrNb ..⟩
    exact hexec.trans startNb_nullInstance

/-! ### The start (rule R216) -/

/-- The six assignments to the Status record. -/
def recordSteps (x : Chain) (sector : Word) (n : BitVec 16) (t0 lim : Nat) : List Micro :=
  [.setSt (.state x.parseStatus), .setSt (.sector sector), .setSt (.blocks n), .setSt (.startTick t0),
   .setSt (.timeoutTicks lim), .setSt (.errState .processing)]

/-- The class's sources unmasked: the command tier, and one block tier. -/
def unmaskSteps : Tier → List Micro
  | .sb => [.write .imr 0x0E, .write .sbimr 0x1F, .write .mbimr 0x00]
  | .mb => [.write .imr 0x0E, .write .sbimr 0x00, .write .mbimr 0x1F]

theorem startNbSteps_eq (c : Cfg) (x : Chain) (sector : Word) (n : BitVec 16) (t0 lim : Nat) :
    startNbSteps c x sector n t0 lim
      = recordSteps x sector n t0 lim ++ (clearAll ++ (unmaskSteps x.tier ++ fiveWrites 13#6 (argRca c))) := by
  cases x <;> rfl

/-- After the steps of `start_nb`, before it returns. -/
def State.armed (s : State) (x : Chain) (sector : Word) (n : BitVec 16) (t0 lim : Nat) : State :=
  { s.started x sector n t0 lim with engine := s.engine, result := s.result }

theorem microSteps_startNbSteps (x : Chain) (sector : Word) (n : BitVec 16) (t0 lim : Nat) (l : Locals) {s : State}
    (hphase : s.hid.cmdPhase = .none) :
    microSteps (startNbSteps s.cfg x sector n t0 lim) l s = some (l, s.armed x sector n t0 lim) := by
  have record : microSteps (recordSteps x sector n t0 lim) l s = some (l, s.setSt
      { s.st with
        state := x.parseStatus, sector := sector, blocks := n, startTick := t0, timeoutTicks := lim
        errState := .processing }) := rfl
  rw [startNbSteps_eq, microSteps_append, record, Option.bind_some, microSteps_append, microSteps_clearAll,
    Option.bind_some, microSteps_append]
  cases x
  all_goals exact microSteps_fiveWrites (argRca s.cfg) l hphase (by decide)

/-- A block at rest with no command open: seventeen steps after the request the operation has returned `Processing`. -/
theorem run_startNb {x : Chain} {sector t0 lim : Word} {n : BitVec 16} {s : State} (hs : Quiet s)
    (hinit : s.initialised = true) (hidle : s.st.errState ≠ .processing) (hphase : s.hid.cmdPhase = .none)
    (hlim : tickOf s.cfg lim ≠ 0) (hn : (x.multi && n == 0#16) = false) :
    ∃ t, startNb true x sector n t0 lim s = .next t
      ∧ run 17 t = .next (s.started x sector n (tickOf s.cfg t0) (tickOf s.cfg lim)) := by
  have length : (startNbSteps s.cfg x sector n (tickOf s.cfg t0) (tickOf s.cfg lim)).length = 17 := by cases x <;> rfl
  have ⟨_, he, _, _⟩ := hs
  have steps := microSteps_startNbSteps x sector n (tickOf s.cfg t0) (tickOf s.cfg lim) Locals.start
    (s := s.setResult none) hphase
  obtain ⟨u, hstart, hrun⟩ := run_startOperation (v := some (.errCode .processing)) hs length steps
  rw [he] at hrun
  exact ⟨u, (startNb_passes hn hlim hinit hidle).trans hstart, hrun⟩

/-- Settles O46: every request is `start_nb` of its chain. -/
theorem startOperationsArmTheInterrupts : Obligations.StartOperationsArmTheInterrupts := by
  rintro s sector t0 lim n _ _ hs hinit hidle hphase rfl rfl hlim
  have started {x : Chain} {n : BitVec 16} (hn : (x.multi && n == 0#16) = false) :=
    run_startNb (sector := sector) (t0 := t0) hs hinit hidle hphase hlim hn
  refine ⟨started (x := .sw) rfl, ?single, fun hn => ?multi⟩
  case single =>
    obtain ⟨t, hstart, hrun⟩ := started (x := readChain s.cfg sector) (n := 1#16) (Bool.and_false _)
    refine ⟨t, hstart, fun hsentinel => ?_, fun hsentinel => ?_⟩
    · rwa [readChain, if_pos hsentinel] at hrun
    · rwa [readChain, if_neg hsentinel] at hrun
  case multi =>
    have count : (n == 0#16) = false := beq_false_of_ne hn
    exact ⟨started (x := .mw) count, started (x := .mr) count⟩

end Sys2Proof.Machine
end

section
/-! `status`, `init_fifo` and the two address accessors (44_nonblocking_transfers.md rules R221 to R224): the elapsed count, the
timeout branch carried out, and the requests that end at once. -/

namespace Sys2Proof.Machine

/-! ### The elapsed count (60_exceptions.md rule R275) -/

theorem elapsed_lt (c : Cfg) (now start : Nat) : elapsed c now start < 2 ^ c.tickBits :=
  Nat.mod_lt _ (Nat.two_pow_pos _)

/-- It leads from the start tick to `now`. -/
theorem start_add_elapsed (c : Cfg) (now start : Nat) :
    (start + elapsed c now start) % 2 ^ c.tickBits = now % 2 ^ c.tickBits := by
  have hstart : start % 2 ^ c.tickBits < 2 ^ c.tickBits := Nat.mod_lt _ (Nat.two_pow_pos _)
  have hdiv := Nat.div_add_mod start (2 ^ c.tickBits)
  have whole : start + (now + 2 ^ c.tickBits - start % 2 ^ c.tickBits)
      = now + 2 ^ c.tickBits * (start / 2 ^ c.tickBits + 1) := by
    rw [Nat.mul_add]
    omega
  rw [elapsed, Nat.add_mod_mod, whole, Nat.add_mul_mod_self_left]

/-- Two counts below the modulus that lead from one tick to the same place: neither is the greater, since the difference is a
multiple of the modulus. -/
theorem le_of_add_mod_eq {modulus start d e : Nat} (hd : d < modulus)
    (h : (start + d) % modulus = (start + e) % modulus) : d ≤ e := by
  have hdiff := Nat.sub_mod_eq_zero_of_mod_eq h
  rw [Nat.add_sub_add_left, Nat.mod_eq_of_lt (Nat.lt_of_le_of_lt (Nat.sub_le d e) hd)] at hdiff
  exact Nat.le_of_sub_eq_zero hdiff

/-- No other count below 2^`cfg.TICK_BITS` does. -/
theorem elapsed_eq {c : Cfg} {now start e : Nat} (he : e < 2 ^ c.tickBits)
    (h : (start + e) % 2 ^ c.tickBits = now % 2 ^ c.tickBits) : elapsed c now start = e := by
  have hsame := (start_add_elapsed c now start).trans h.symm
  exact Nat.le_antisymm (le_of_add_mod_eq (elapsed_lt c now start) hsame) (le_of_add_mod_eq he hsame.symm)

/-! ### `status` (rule R221) -/

theorem exec_status_unwritten (now : Word) {s : State} (h : s.initExited = false) :
    exec (.status true now) s = .refused .statusUnwritten := by
  show execStatus true now s = _
  rw [execStatus, h]
  rfl

theorem exec_status_timed_out {now : Word} {s : State} (hexited : s.initExited = true)
    (htime : statusTimedOut now s = true) :
    exec (.status true now) s = startOperation appTimeoutSteps (.ret (some (.errCode .appTimeoutFail))) s := by
  show execStatus true now s = _
  rw [execStatus, hexited, htime]
  rfl

theorem statusTimedOut_iff (now : Word) (s : State) : statusTimedOut now s = true ↔
    (s.cfg.timeoutScope = .always ∨ s.st.errState = .processing)
    ∧ s.st.timeoutTicks < elapsed s.cfg (tickOf s.cfg now) s.st.startTick := by
  rw [statusTimedOut, Bool.and_eq_true, Bool.or_eq_true, beq_iff_eq, beq_iff_eq, decide_eq_true_eq]

/-- `mask_all` (rule R226). -/
theorem microSteps_maskAll (l : Locals) (s : State) : microSteps maskAll l s = some (l, s.allMasked) := rfl

/-- The timeout branch: latches cleared, masks zeroed, the state and the code assigned. -/
theorem microSteps_appTimeoutSteps (l : Locals) (s : State) :
    microSteps appTimeoutSteps l s
      = some (l, s.latchesCleared.allMasked.setSt { s.st with state := .error, errState := .appTimeoutFail }) := by
  rw [appTimeoutSteps, microSteps_append, microSteps_append, microSteps_clearAll, Option.bind_some, microSteps_maskAll]
  rfl

/-- Settles O47: the count `e` is the elapsed one, and past the budget the eight steps of the timeout branch are carried
out. -/
theorem statusTimesOutOrReturnsTheStickyCode : Obligations.StatusTimesOutOrReturnsTheStickyCode := by
  intro s now
  have hnow : tickOf s.cfg now % 2 ^ s.cfg.tickBits = now.toNat % 2 ^ s.cfg.tickBits := Nat.mod_mod _ _
  refine ⟨exec_status_unwritten now,
    ⟨elapsed s.cfg (tickOf s.cfg now) s.st.startTick, elapsed_lt _ _ _, ?count⟩, fun e he hcount hexited => ?_⟩
  case count => exact (start_add_elapsed s.cfg (tickOf s.cfg now) s.st.startTick).trans hnow
  have helapsed : elapsed s.cfg (tickOf s.cfg now) s.st.startTick = e :=
    elapsed_eq he (hcount.trans hnow.symm)
  have timedOut := statusTimedOut_iff now s
  rw [helapsed] at timedOut
  refine ⟨fun happlies hpast hs => ?_, fun hwithin => exec_status_in_time hexited ?_⟩
  · rw [exec_status_timed_out hexited (timedOut.2 ⟨happlies, hpast⟩)]
    exact run_startOperation hs rfl (microSteps_appTimeoutSteps _ _)
  · rw [← Bool.not_eq_true, timedOut]
    rintro ⟨happlies, hpast⟩
    obtain ⟨hscope, hidle⟩ | hbudget := hwithin
    · obtain halways | hflight := happlies
      · cases hscope.symm.trans halways
      · exact hidle hflight
    · omega

/-! ### The FIFOs (rules R222 to R224) -/

/-- Settles O48: `init_fifo` is one write of `CTRL`, whose bits 1 to 3 keep the clock on and empty both FIFOs; the accessors
answer at once. -/
theorem fifoResetAndPortAddresses : Obligations.FifoResetAndPortAddresses := by
  refine fun s => ⟨?fifo, rfl, rfl, fun hoff => ?ports⟩
  case fifo =>
    exact hostWrite_ok ((writeReg_ctrl 0x0E s).trans (congrArg Except.ok (writeCtrl_enables (by decide) s)))
  case ports =>
    rw [hoff]
    exact ⟨rfl, rfl⟩

end Sys2Proof.Machine
end

section
/-! What a delivery may change (45_interrupt_state_machine.md rules R235 to R249): the frame of each step it plans, and so of
every step DISPATCHER takes of it. -/

namespace Sys2Proof.Machine

/-! ### The frame of a step -/

/-- From `s` to `t` nothing changed but what a delivery may write, DISPATCHER's position left out. -/
def ChangedByDelivery (s t : State) : Prop :=
  t = { s with
    regs := { s.regs with
      cmdx := t.regs.cmdx, arg1 := t.regs.arg1, arg2 := t.regs.arg2, arg3 := t.regs.arg3, arg4 := t.regs.arg4
      imr := t.regs.imr, sbimr := t.regs.sbimr, mbimr := t.regs.mbimr
      isr := t.regs.isr, sbisr := t.regs.sbisr, mbisr := t.regs.mbisr }
    hid := { s.hid with cmdPhase := t.hid.cmdPhase, curIndex := t.hid.curIndex, curArg := t.hid.curArg }
    st := { s.st with state := t.st.state, errState := t.st.errState, tempErr := t.st.tempErr } }

theorem ChangedByDelivery.refl (s : State) : ChangedByDelivery s s := rfl

/-- A trigger that is taken finds no command open and a known index, and latches the command (40_register_model.md rule
R114). -/
theorem writeArg4_ok {v : Byte} {s t : State} (h : writeArg4 v s = .ok t) :
    s.hid.cmdPhase = .none ∧ respClass (s.regs.cmdx.extractLsb' 0 6) ≠ none
    ∧ t = (s.setRegs { s.regs with arg4 := v }).setHid
      { s.hid with
        curIndex := s.regs.cmdx.extractLsb' 0 6
        curArg := s.regs.arg1 ++ s.regs.arg2 ++ s.regs.arg3 ++ v
        cmdPhase := .sending } := by
  unfold writeArg4 at h
  split at h
  · cases h
  · next hphase =>
    split at h <;> cases h
    next hindex => exact ⟨Decidable.not_not.1 hphase, hindex, rfl⟩

/-- One that is refused meets a command still open, or an index with no response class (rules R114, R136). -/
theorem writeArg4_error {v : Byte} {s : State} {e : Refusal} (h : writeArg4 v s = .error e) :
    e = .commandInFlight ∨ respClass (s.regs.cmdx.extractLsb' 0 6) = none := by
  unfold writeArg4 at h
  split at h
  · cases h; exact .inl rfl
  · split at h
    · next hindex => exact .inr hindex
    · cases h

theorem writeReg_changedByDelivery {r : Reg} {w : Word} {s t : State} (hr : deliveryWrites r = true)
    (h : writeReg r w s = .ok t) : ChangedByDelivery s t := by
  cases r
  case arg4 =>
    obtain ⟨-, -, rfl⟩ := writeArg4_ok h
    rfl
  case cmdx | arg1 | arg2 | arg3 | imr | sbimr | mbimr | icr | sbicr | mbicr => cases h; rfl
  all_goals cases hr

theorem microStep_changedByDelivery {m : Micro} {l l' : Locals} {more : List Micro} {s t : State}
    (hm : deliveryMicro m = true) (h : microStep m l s = .next more l' t) : ChangedByDelivery s t := by
  cases m
  case write r v =>
    simp only [microStep] at h
    split at h
    · next hw => cases h; exact writeReg_changedByDelivery hm hw
    · cases h
  case payloadByte | snapIsr | snapSbisr | snapMbisr => cases h; rfl
  case setSt u =>
    cases h
    cases u
    case state | errState | tempErr => rfl
    all_goals cases hm
  all_goals cases hm

theorem ctxStep_changedByDelivery {c : Ctx} {s t : State} (hc : c.isDelivery = true)
    (h : (ctxStep c s).state? = some t) : ChangedByDelivery s t := by
  obtain rfl | ⟨m, rest, more, l, htodo, hm⟩ := ctxStep_cases h
  · exact .refl t
  · obtain ⟨hplan, -⟩ := Bool.and_eq_true_iff.1 hc
    rw [htodo] at hplan
    exact microStep_changedByDelivery (List.all_eq_true.1 hplan m List.mem_cons_self) hm

/-- Settles O13: a test changes nothing, and each kind of planned step of a delivery writes within the frame. -/
theorem deliveryTouchesOnlyItsOwnRegisters : Obligations.DeliveryTouchesOnlyItsOwnRegisters := by
  intro s t c hc hdelivery h
  obtain ⟨hnone, -⟩ | ⟨c₀, u, hsome, hstep⟩ := dispatcherStep_cases h
  · cases hc.symm.trans hnone
  obtain rfl := Option.some.inj (hc.symm.trans hsome)
  obtain ⟨d, hu, rfl⟩ : ∃ d, (ctxStep c s).state? = some u ∧ t = u.setDisp d := by
    obtain ⟨c', hrun, rfl⟩ | ⟨v, hfin, rfl⟩ := hstep
    · exact ⟨_, congrArg CtxResult.state? hrun, rfl⟩
    · exact ⟨_, congrArg CtxResult.state? hfin, rfl⟩
  exact congrArg (State.setDisp · d) (ctxStep_changedByDelivery hdelivery hu)

end Sys2Proof.Machine
end

section
/-! How long a delivery lasts (45_interrupt_state_machine.md rule R235): each of its steps lowers the number of steps it has
left at most, and the number of register transactions among them; the only refusal it can meet is that of a trigger with a
command still open (40_register_model.md rule R136). -/

namespace Sys2Proof.Machine

/-! ### Register transactions left, and triggers -/

/-- How many register transactions a delivery makes at most after the test it comes to: `Point.deliverySteps` without the two
assignments to `st` of an abort. -/
def Point.deliveryTransactions : Point → Nat
  | .dispatch => 12
  | .checkpoint _ _ => 8
  | _ => 0

/-- How many register transactions a delivery makes at most from here. -/
def Ctx.deliveryTransactions (c : Ctx) : Nat := c.todo.countP Micro.isTransaction + c.point.deliveryTransactions

/-- Every planned trigger finds in `CMDX`, which holds `cmdx` at first, an index that has a response class
(40_register_model.md rule R114). -/
def triggersKnown : Byte → List Micro → Bool
  | _, [] => true
  | _, .write .cmdx v :: rest => triggersKnown (v.lowByte &&& 0x3F#8) rest
  | cmdx, .write .arg4 _ :: rest => (respClass (cmdx.extractLsb' 0 6)).isSome && triggersKnown cmdx rest
  | cmdx, _ :: rest => triggersKnown cmdx rest

theorem triggersKnown_fiveWrites {index : BitVec 6} (hindex : respClass index ≠ none) (arg : Word) (cmdx : Byte) :
    triggersKnown cmdx (fiveWrites index arg) = true := by
  simp only [fiveWrites, triggersKnown, cmdx_of_index, index_of_cmdx, Bool.and_true]
  exact Option.isSome_iff_ne_none.2 hindex

/-- The step leaves `CMDX` as the rest of the plan needs it. -/
theorem triggersKnown_rest {m : Micro} {rest more : List Micro} {l l' : Locals} {s t : State}
    (hm : deliveryMicro m = true) (h : microStep m l s = .next more l' t)
    (hknown : triggersKnown s.regs.cmdx (m :: rest) = true) : triggersKnown t.regs.cmdx rest = true := by
  cases m
  case write r v =>
    simp only [microStep] at h
    split at h
    case h_2 => cases h
    next hw =>
      cases h
      cases r
      case arg4 =>
        obtain ⟨-, -, rfl⟩ := writeArg4_ok hw
        exact (Bool.and_eq_true_iff.1 hknown).2
      case cmdx | arg1 | arg2 | arg3 | imr | sbimr | mbimr | icr | sbicr | mbicr => cases hw; exact hknown
      all_goals cases hm
  case payloadByte | snapIsr | snapSbisr | snapMbisr | setSt => cases h; exact hknown
  all_goals cases hm

/-- Of the steps a delivery plans only the trigger is ever refused. -/
theorem microStep_delivery_refused {m : Micro} {rest : List Micro} {l : Locals} {s : State} {e : Refusal}
    (hm : deliveryMicro m = true) (hknown : triggersKnown s.regs.cmdx (m :: rest) = true)
    (h : microStep m l s = .refused e) : e = .commandInFlight := by
  cases m
  case write r v =>
    simp only [microStep] at h
    split at h
    case h_1 => cases h
    next hw =>
      cases h
      cases r
      case arg4 =>
        have hindex := Option.isSome_iff_ne_none.1 (Bool.and_eq_true_iff.1 hknown).1
        exact (writeArg4_error hw).resolve_right hindex
      case cmdx | arg1 | arg2 | arg3 | imr | sbimr | mbimr | icr | sbicr | mbicr => cases hw
      all_goals cases hm
  case payloadByte | snapIsr | snapSbisr | snapMbisr | setSt => cases h
  all_goals cases hm

/-! ### The legs of a delivery -/

/-- A test at `q` leads to this plan and the test `p` after it: there is something to do, no more than `q` allows. -/
structure DeliveryLeg (q : Point) (todo : List Micro) (p : Point) : Prop where
  nonempty : todo ≠ []
  steps : todo.length + p.deliverySteps ≤ q.deliverySteps
  transactions : todo.countP Micro.isTransaction + p.deliveryTransactions ≤ q.deliveryTransactions
  triggers : ∀ cmdx, triggersKnown cmdx todo = true

/-- The test at `q` ends the delivery or leads to a leg. -/
def Decision.LegFrom (q : Point) : Decision → Prop
  | .run todo p _ => DeliveryLeg q todo p
  | .finish _ => True

section
variable {q : Point} (l : Locals)

theorem terminal_leg (wasIdle : Bool) : (terminal wasIdle l).LegFrom .dispatch := by
  cases wasIdle <;> exact ⟨List.cons_ne_nil _ _, by decide, by decide, fun _ => rfl⟩

theorem finishAbort_leg (s : State) : (finishAbort l s).LegFrom .dispatch :=
  ⟨List.cons_ne_nil _ _, (by decide : 8 ≤ 14), (by decide : 6 ≤ 12), fun _ => rfl⟩

theorem complete_leg : (complete l).LegFrom .dispatch :=
  ⟨List.cons_ne_nil _ _, by decide, by decide, fun _ => rfl⟩

theorem abort_leg (code : ErrCode) (hsteps : 10 ≤ q.deliverySteps) (htrans : 8 ≤ q.deliveryTransactions) :
    (abort code l).LegFrom q :=
  ⟨List.cons_ne_nil _ _, hsteps, htrans, triggersKnown_fiveWrites (index := 12#6) (by decide) argZero⟩

theorem advance_leg {index : BitVec 6} (hindex : respClass index ≠ none) (next : FsmState) (arg : Word) (x : Chain)
    (k : ChainStep) : (advance next arg index l).LegFrom (.checkpoint x k) :=
  ⟨List.cons_ne_nil _ _, (by decide : 7 ≤ 10), (by decide : 6 ≤ 8), triggersKnown_fiveWrites hindex arg⟩

theorem expectedEvent_leg (x : Chain) (k : ChainStep) : (expectedEvent x k l).LegFrom .dispatch := by
  unfold expectedEvent
  split
  case h_4 =>
    split
    · trivial
    · exact complete_leg l
  all_goals
    split
    · trivial
    · split
      · exact abort_leg l .otherFail (by decide) (by decide)
      · exact ⟨List.cons_ne_nil _ _, (by decide : 14 ≤ 14), (by decide : 12 ≤ 12), fun _ => rfl⟩

end

theorem dispatch_leg (l : Locals) (s : State) : (dispatch l s).LegFrom .dispatch := by
  unfold dispatch
  split
  · exact terminal_leg l true
  · exact terminal_leg l false
  · exact finishAbort_leg l s
  · split
    · trivial
    · split
      · exact abort_leg l _ (by decide) (by decide)
      · exact expectedEvent_leg l _ _

/-- The data command of a chain has a response class (41_command_interface.md rule R150). -/
theorem respClass_dataCmd (x : Chain) : respClass x.dataCmd ≠ none := by cases x <;> decide

theorem checkpoint_leg (x : Chain) (k : ChainStep) (l : Locals) (s : State) :
    (checkpoint x k l s).LegFrom (.checkpoint x k) := by
  have data (next : FsmState) : (advance next (x.dataArg s.st.sector) x.dataCmd l).LegFrom (.checkpoint x k) :=
    advance_leg l (respClass_dataCmd x) next _ x k
  unfold checkpoint
  split
  · exact abort_leg l _ (Nat.le_refl 10) (Nat.le_refl 8)
  · split
    · split
      · exact advance_leg l (by decide) _ _ x _
      · split
        · exact advance_leg l (by decide) _ _ x _
        · exact data _
    · exact data _
    · exact ⟨List.cons_ne_nil _ _, (by decide : 2 ≤ 10), (by decide : 1 ≤ 8), fun _ => rfl⟩
    · trivial

theorem continueAt_leg {q : Point} (hq : deliveryPoint q = true) (l : Locals) (s : State) :
    (continueAt q l s).LegFrom q := by
  cases q
  case ret => trivial
  case dispatch => exact dispatch_leg l s
  case checkpoint x k => exact checkpoint_leg x k l s
  all_goals cases hq

/-! ### A step of a delivery -/

/-- A delivery that goes on after a step is at a test's decision, or has the rest of its plan. -/
theorem ctxStep_delivery_cases {c c' : Ctx} {s t : State} (hc : c.isDelivery = true)
    (h : ctxStep c s = .running c' t) :
    (∃ l u, continueAt c.point l u = .run c'.todo c'.point c'.locals)
    ∨ ∃ m l, deliveryMicro m = true ∧ c.todo = m :: c'.todo ∧ c'.todo ≠ [] ∧ c'.point = c.point
        ∧ microStep m c.locals s = .next [] l t := by
  obtain decided | ⟨m, rest, more, l, htodo, hm, hplan, hpoint⟩ := ctxStep_running_cases h
  · exact .inl decided
  obtain ⟨hdelivery, -⟩ := Bool.and_eq_true_iff.1 hc
  rw [htodo] at hdelivery
  have hmicro := List.all_eq_true.1 hdelivery m List.mem_cons_self
  obtain rfl := microStep_delivery hmicro hm
  cases rest with
  | nil =>
    obtain ⟨todo, p, l₀⟩ := c
    cases htodo
    exact .inl ⟨_, _, settle_running ((ctxStep_last hm).symm.trans h)⟩
  | cons m' rest => exact .inr ⟨m, l, hmicro, hplan ▸ htodo, hplan ▸ List.cons_ne_nil m' rest, hpoint, hm⟩

/-- From the context `c` in state `s` a step leads to `c'` in state `t`, with less of the delivery left. -/
structure Ctx.StepsOnTo (c : Ctx) (s : State) (c' : Ctx) (t : State) : Prop where
  delivery : c'.isDelivery = true
  nonempty : c'.todo ≠ []
  steps : c'.deliverySteps < c.deliverySteps
  transactions : dispatcherTransaction s + c'.deliveryTransactions ≤ c.deliveryTransactions
  triggers : triggersKnown s.regs.cmdx c.todo = true → triggersKnown t.regs.cmdx c'.todo = true

theorem dispatcherTransaction_cons {s : State} {m : Micro} {rest : List Micro} {p : Point} {l : Locals}
    (hd : s.disp = some ⟨m :: rest, p, l⟩) :
    dispatcherTransaction s + (⟨rest, p, l⟩ : Ctx).deliveryTransactions
      = (⟨m :: rest, p, l⟩ : Ctx).deliveryTransactions := by
  simp only [dispatcherTransaction, hd, Ctx.deliveryTransactions, List.countP_cons]
  omega

theorem dispatcherTransaction_le {c : Ctx} {s : State} (hd : s.disp = some c) (hne : c.todo ≠ []) :
    dispatcherTransaction s ≤ c.deliveryTransactions := by
  obtain ⟨todo, p, l⟩ := c
  obtain ⟨m, rest, rfl⟩ := List.exists_cons_of_ne_nil hne
  exact dispatcherTransaction_cons hd ▸ Nat.le_add_right _ _

/-- A context of a delivery that goes on is brought on. -/
theorem ctxStep_stepsOnTo {c c' : Ctx} {s t : State} (hd : s.disp = some c) (hc : c.isDelivery = true)
    (hne : c.todo ≠ []) (h : ctxStep c s = .running c' t) : c.StepsOnTo s c' t := by
  have hdelivery := ctxStep_delivery hc h
  obtain ⟨todo, p, l₀⟩ := c
  obtain ⟨m, rest, rfl⟩ := List.exists_cons_of_ne_nil hne
  have first := dispatcherTransaction_cons hd
  simp only [Ctx.deliveryTransactions] at first
  obtain ⟨l, u, decided⟩ | ⟨m', l, hmicro, ⟨⟩, hne', hpoint, hm⟩ := ctxStep_delivery_cases hc h
  · have leg : (continueAt p l u).LegFrom p := continueAt_leg (Bool.and_eq_true_iff.1 hc).2 l u
    rw [decided] at leg
    obtain ⟨hne', hsteps, htrans, htriggers⟩ := leg
    refine ⟨hdelivery, hne', ?_, ?_, fun _ => htriggers _⟩
    · simp only [Ctx.deliverySteps, List.length_cons]
      omega
    · simp only [Ctx.deliveryTransactions]
      omega
  · refine ⟨hdelivery, hne', ?_, ?_, triggersKnown_rest hmicro hm⟩
    · simp only [Ctx.deliverySteps, List.length_cons, hpoint]
      omega
    · simp only [Ctx.deliveryTransactions, hpoint]
      omega

/-- A step of DISPATCHER ends the delivery or brings it on. -/
theorem dispatcherStep_stepsOn {c : Ctx} {s t : State} (hd : s.disp = some c) (hc : c.isDelivery = true)
    (hne : c.todo ≠ []) (h : dispatcherStep s = .next t) :
    t.disp = none ∨ ∃ c', t.disp = some c' ∧ c.StepsOnTo s c' t := by
  obtain ⟨hnone, -⟩ | ⟨c₀, u, hsome, hstep⟩ := dispatcherStep_cases h
  · cases hd.symm.trans hnone
  obtain rfl := Option.some.inj (hd.symm.trans hsome)
  obtain ⟨c', hrun, rfl⟩ | ⟨v, -, rfl⟩ := hstep
  · obtain ⟨hdelivery, hne', hsteps, htrans, htriggers⟩ := ctxStep_stepsOnTo hd hc hne hrun
    exact .inr ⟨c', rfl, hdelivery, hne', hsteps, htrans, htriggers⟩
  · exact .inl rfl

/-- A step of a context is refused where its planned step is. -/
theorem ctxStep_refused {m : Micro} {rest : List Micro} {p : Point} {l : Locals} {s : State} {e : Refusal}
    (h : ctxStep ⟨m :: rest, p, l⟩ s = .refused e) : microStep m l s = .refused e := by
  simp only [ctxStep] at h
  split at h
  · next hm => cases h; exact hm
  · split at h
    · unfold settle at h
      split at h <;> cases h
    · cases h

/-- It is refused for one reason only, and never faults. -/
theorem dispatcherStep_next_or_refused {c : Ctx} {s : State} (hd : s.disp = some c) (hc : c.isDelivery = true)
    (hne : c.todo ≠ []) (hknown : triggersKnown s.regs.cmdx c.todo = true) :
    (∃ t, dispatcherStep s = .next t) ∨ dispatcherStep s = .refused .commandInFlight := by
  obtain ⟨todo, p, l⟩ := c
  obtain ⟨m, rest, rfl⟩ := List.exists_cons_of_ne_nil hne
  cases hstep : ctxStep ⟨m :: rest, p, l⟩ s with
  | running c' t => exact .inl ⟨_, dispatcherStep_running hd hstep⟩
  | finished v t => exact .inl ⟨_, dispatcherStep_finished hd hstep⟩
  | refused e =>
    have hmicro := List.all_eq_true.1 (Bool.and_eq_true_iff.1 hc).1 m List.mem_cons_self
    obtain rfl := microStep_delivery_refused hmicro hknown (ctxStep_refused hstep)
    exact .inr (by simp only [dispatcherStep, hd, hstep])

/-! ### The whole of a delivery -/

theorem dispatcherTransactions_succ {n : Nat} {s t : State} (h : step s = .next t) :
    dispatcherTransactions (n + 1) s = dispatcherTransaction s + dispatcherTransactions n t := by
  simp only [dispatcherTransactions, h]

theorem dispatcherTransactions_refused {n : Nat} {s : State} {e : Refusal} (h : step s = .refused e) :
    dispatcherTransactions (n + 1) s = dispatcherTransaction s := by
  simp only [dispatcherTransactions, h, Nat.add_zero]

/-- DISPATCHER alone brings a delivery to its end, or to a trigger that is refused, within the steps and the register
transactions it has left. -/
theorem delivery_ends {n : Nat} {c : Ctx} {s : State} (hf : s.faulted = none) (ha : s.agenda = [])
    (hd : s.disp = some c) (hc : c.isDelivery = true) (hne : c.todo ≠ [])
    (hknown : triggersKnown s.regs.cmdx c.todo = true) (hn : c.deliverySteps ≤ n) :
    ∃ k, k ≤ n ∧ dispatcherTransactions k s ≤ c.deliveryTransactions
      ∧ ((∃ u, run k s = .next u ∧ u.disp = none) ∨ run k s = .refused .commandInFlight) := by
  induction n generalizing c s with
  | zero => exact absurd hn (Nat.not_le.2 (Nat.add_pos_left (List.length_pos_iff.2 hne) _))
  | succ n ih =>
    have first := dispatcherTransaction_le hd hne
    have hstep : step s = dispatcherStep s := step_eq_dispatcherStep hf ha (Option.ne_none_iff_exists'.2 ⟨c, hd⟩)
    obtain ⟨t, hnext⟩ | hrefused := dispatcherStep_next_or_refused hd hc hne hknown
    case inr =>
      rw [← hstep] at hrefused
      have count := dispatcherTransactions_refused (n := 0) hrefused
      exact ⟨1, Nat.le_add_left .., count ▸ first, .inr (run_refused hrefused)⟩
    have frame := deliveryTouchesOnlyItsOwnRegisters s t c hd hc hnext
    obtain hended | ⟨c', hd', next⟩ := dispatcherStep_stepsOn hd hc hne hnext
    all_goals rw [← hstep] at hnext
    · have count := dispatcherTransactions_succ (n := 0) hnext
      exact ⟨1, Nat.le_add_left .., count ▸ first, .inl ⟨t, run_next hnext, hended⟩⟩
    · have hsteps := next.steps
      have htrans := next.transactions
      have hf' := (congrArg State.faulted frame).trans hf
      have ha' := (congrArg State.agenda frame).trans ha
      obtain ⟨k, hk, hcount, hend⟩ :=
        ih hf' ha' hd' next.delivery next.nonempty (next.triggers hknown) (by omega)
      refine ⟨k + 1, by omega, ?_, ?_⟩
      · rw [dispatcherTransactions_succ hnext]
        omega
      · rwa [run_next hnext]

/-- Settles O57: the steps left bound the whole, seventeen from the start of a delivery and fifteen of them register
transactions. -/
theorem deliveryIsBounded : Obligations.DeliveryIsBounded := by
  refine ⟨fun s t c hd hc hne h => ?lowers, rfl, fun s hf ha hd => ?bound⟩
  case lowers =>
    refine (dispatcherStep_stepsOn hd hc hne h).imp_right ?_
    rintro ⟨c', hd', next⟩
    exact ⟨c', hd', next.delivery, next.nonempty, next.steps⟩
  case bound =>
    exact delivery_ends hf ha hd rfl (List.cons_ne_nil _ _) rfl (Nat.le_refl 17)

end Sys2Proof.Machine
end

section
/-! A delivery carried out (45_interrupt_state_machine.md rule R235): a plan of DISPATCHER taken one step after another, the
three snapshot reads and what the dispatch then decides, from the request of `isr` to the end of the delivery. -/

namespace Sys2Proof.Machine

/-! ### A plan of DISPATCHER carried out -/

theorem State.setDisp_self {s : State} {c : Option Ctx} (h : s.disp = c) : s.setDisp c = s := by
  subst h
  rfl

theorem writeReg_setDisp {r : Reg} {w : Word} {s t : State} (hr : deliveryWrites r = true)
    (h : writeReg r w s = .ok t) (c : Option Ctx) : writeReg r w (s.setDisp c) = .ok (t.setDisp c) := by
  cases r
  case arg4 =>
    obtain ⟨hphase, hindex, rfl⟩ := writeArg4_ok h
    exact writeArg4_triggers (s := s.setDisp c) w.lowByte hphase hindex
  case cmdx | arg1 | arg2 | arg3 | imr | sbimr | mbimr | icr | sbicr | mbicr => cases h; rfl
  all_goals cases hr

/-- A step a delivery plans does not look at DISPATCHER's position, and leaves it alone. -/
theorem microStep_setDisp {m : Micro} {l l' : Locals} {more : List Micro} {s t : State} (hm : deliveryMicro m = true)
    (h : microStep m l s = .next more l' t) (c : Option Ctx) :
    microStep m l (s.setDisp c) = .next more l' (t.setDisp c) := by
  cases m
  case write r v =>
    simp only [microStep] at h ⊢
    split at h
    · next hw => cases h; rw [writeReg_setDisp hm hw]
    · cases h
  case payloadByte | snapIsr | snapSbisr | snapMbisr | setSt => cases h; rfl
  all_goals cases hm

/-- With no turn given a delivery in progress takes the next step. -/
theorem step_delivery {s : State} (hf : s.faulted = none) (ha : s.agenda = []) (c : Ctx) :
    step (s.setDisp (some c)) = dispatcherStep (s.setDisp (some c)) :=
  step_eq_dispatcherStep (s := s.setDisp (some c)) hf ha (Option.some_ne_none c)

/-- The steps of a plan but for its rest. -/
theorem run_delivery_planned {todo rest : List Micro} {m : Micro} {p : Point} {l l' : Locals} {s t : State}
    (hplan : todo.all deliveryMicro = true) (hf : s.faulted = none) (ha : s.agenda = [])
    (h : microSteps todo l s = some (l', t)) :
    run todo.length (s.setDisp (some ⟨todo ++ m :: rest, p, l⟩)) = .next (t.setDisp (some ⟨m :: rest, p, l'⟩)) := by
  induction todo generalizing l s with
  | nil => cases h; rfl
  | cons m₀ todo ih =>
    rw [List.all_cons, Bool.and_eq_true] at hplan
    obtain ⟨hm₀, htodo⟩ := hplan
    obtain ⟨l₁, u, hm, hrest⟩ := microSteps_cons_cases h
    obtain ⟨m₁, todo', hsplit⟩ : ∃ m₁ todo', todo ++ m :: rest = m₁ :: todo' := by
      cases todo <;> exact ⟨_, _, rfl⟩
    have hframe := microStep_frame hm
    rw [List.cons_append, hsplit, List.length_cons,
      run_next ((step_delivery hf ha _).trans
        (dispatcherStep_running rfl (ctxStep_more (microStep_setDisp hm₀ hm _)))), ← hsplit]
    exact ih (s := u) htodo ((congrArg State.faulted hframe).trans hf) ((congrArg State.agenda hframe).trans ha) hrest

theorem microSteps_keeps_schedule {todo : List Micro} {l l' : Locals} {s t : State}
    (h : microSteps todo l s = some (l', t)) : t.faulted = s.faulted ∧ t.agenda = s.agenda := by
  induction todo generalizing l s with
  | nil => cases h; exact ⟨rfl, rfl⟩
  | cons m rest ih =>
    obtain ⟨l₁, u, hm, hrest⟩ := microSteps_cons_cases h
    obtain ⟨hf, ha⟩ := ih hrest
    rw [microStep_frame hm] at hf ha
    exact ⟨hf, ha⟩

/-- The whole of the last plan of a delivery, which ends it. -/
theorem run_deliver {todo : List Micro} {l l' : Locals} {s t : State} (hne : todo ≠ [])
    (hplan : todo.all deliveryMicro = true) (hf : s.faulted = none) (ha : s.agenda = [])
    (h : microSteps todo l s = some (l', t)) :
    run todo.length (s.setDisp (some ⟨todo, .ret none, l⟩)) = .next (t.setDisp none) := by
  obtain ⟨init, m, rfl⟩ : ∃ init m, todo = init ++ [m] := ⟨_, _, (List.dropLast_concat_getLast hne).symm⟩
  rw [List.all_append, Bool.and_eq_true] at hplan
  obtain ⟨hinit, hlast⟩ := hplan
  rw [microSteps_append, Option.bind_eq_some_iff] at h
  obtain ⟨⟨l₁, u⟩, h₁, h₂⟩ := h
  obtain ⟨l₂, v, hm, ⟨⟩⟩ := microSteps_cons_cases (l := l₁) (s := u) h₂
  obtain ⟨hf', ha'⟩ := microSteps_keeps_schedule h₁
  have last := dispatcherStep_finished (s := u.setDisp _) rfl
    (ctxStep_last (p := .ret none) (microStep_setDisp (List.all_eq_true.1 hlast m List.mem_cons_self) hm _))
  rw [List.length_append, run_add (run_delivery_planned hinit hf ha h₁)]
  exact run_next (n := 0) ((step_delivery (hf'.trans hf) (ha'.trans ha) _).trans last)

/-- A trigger planned with a command still open is refused (40_register_model.md rule R136). -/
theorem run_deliver_refused {before : List Micro} {index : BitVec 6} {arg : Word} {p : Point} {l l' : Locals}
    {s t : State} (hplan : before.all deliveryMicro = true) (hf : s.faulted = none) (ha : s.agenda = [])
    (h : microSteps before l s = some (l', t)) (hphase : t.hid.cmdPhase ≠ .none) :
    run (before ++ fiveWrites index arg).length (s.setDisp (some ⟨before ++ fiveWrites index arg, p, l⟩))
      = .refused .commandInFlight := by
  have prepared : microSteps (before ++ writesBeforeTrigger index arg) l s = some (l', t.commandPrepared index arg) := by
    rw [microSteps_append, h]
    exact microSteps_writesBeforeTrigger index arg l' t
  obtain ⟨hf', ha'⟩ := microSteps_keeps_schedule prepared
  have hplan' : (before ++ writesBeforeTrigger index arg).all deliveryMicro = true := by
    rw [List.all_append, hplan]
    rfl
  rw [fiveWrites_eq, ← List.append_assoc, List.length_append, run_add (run_delivery_planned hplan' hf ha prepared)]
  refine run_refused (n := 0) ((step_delivery (hf'.trans hf) (ha'.trans ha) _).trans ?_)
  have refused (c : Option Ctx) := writeArg4_in_flight (s := (t.commandPrepared index arg).setDisp c)
    (arg.extractLsb' 0 8) hphase
  simp only [dispatcherStep, State.setDisp_disp, ctxStep, microStep, writeReg_arg4, refused]

/-! ### From the request to the end -/

theorem exec_isr {s : State} (hexited : s.initExited = true) :
    exec (.isr true) s = .next (s.setDisp (some Ctx.deliveryStart)) := by
  show enterInterrupt true s = _
  simp only [enterInterrupt, hexited]
  rfl

/-- The dispatch leads to the plan that ends the delivery. -/
theorem run_delivery {todo : List Micro} {l l' : Locals} {s t : State} (hs : Quiet s) (hne : todo ≠ [])
    (hdispatch : dispatch (snapshotLocals s) s = deliver todo l) (h : microSteps todo l s = some (l', t)) :
    run (3 + todo.length) (s.setDisp (some Ctx.deliveryStart)) = .next t := by
  obtain ⟨hf, -, hd, ha⟩ := hs
  have hplan := (Bool.and_eq_true_iff.1 (dispatch_isDelivery hdispatch)).1
  rw [run_snapshot _ s hf ha, hdispatch, ← State.setDisp_self ((microSteps_frame h).2.trans hd)]
  exact run_deliver hne hplan hf ha h

/-- The same with a trigger in the plan, and a command still open when it is come to. -/
theorem run_delivery_refused {before : List Micro} {index : BitVec 6} {arg : Word} {l l' : Locals} {s t : State}
    (hs : Quiet s) (hdispatch : dispatch (snapshotLocals s) s = deliver (before ++ fiveWrites index arg) l)
    (h : microSteps before l s = some (l', t)) (hphase : t.hid.cmdPhase ≠ .none) :
    run (3 + (before ++ fiveWrites index arg).length) (s.setDisp (some Ctx.deliveryStart))
      = .refused .commandInFlight := by
  obtain ⟨hf, -, -, ha⟩ := hs
  have hplan := (Bool.and_eq_true_iff.1 (dispatch_isDelivery hdispatch)).1
  rw [List.all_append, Bool.and_eq_true] at hplan
  obtain ⟨hbefore, -⟩ := hplan
  rw [run_snapshot _ s hf ha, hdispatch]
  exact run_deliver_refused hbefore hf ha h hphase

/-- The dispatch leads to a checkpoint, and the card status read there to the plan that ends the delivery. -/
theorem run_delivery_checkpoint {x : Chain} {k : ChainStep} {todo : List Micro} {l l' l'' : Locals} {s t : State}
    (hs : Quiet s) (hne : todo ≠ [])
    (hdispatch : dispatch (snapshotLocals s) s = .run readPayload32 (.checkpoint x k) l)
    (hcheck : checkpoint x k { l with payload := s.cardStatus } s = deliver todo l')
    (h : microSteps todo l' s = some (l'', t)) :
    run (7 + todo.length) (s.setDisp (some Ctx.deliveryStart)) = .next t := by
  obtain ⟨hf, -, hd, ha⟩ := hs
  have hplan := (Bool.and_eq_true_iff.1 (checkpoint_isDelivery hcheck)).1
  rw [show 7 + todo.length = 3 + (4 + todo.length) by omega, run_snapshot _ s hf ha, hdispatch]
  simp only
  rw [run_checkpoint _ s x k l hf ha, hcheck, ← State.setDisp_self ((microSteps_frame h).2.trans hd)]
  exact run_deliver hne hplan hf ha h

/-! ### The plans a delivery ends with -/

section
variable (l : Locals) (s : State)

/-- `clear_all`, `mask_all` (41_command_interface.md rule R166, 44_nonblocking_transfers.md rule R226). -/
theorem microSteps_clearAndMask : microSteps (clearAll ++ maskAll) l s = some (l, s.latchesCleared.allMasked) := by
  rw [microSteps_append, microSteps_clearAll]
  rfl

/-- Latches cleared, masks zeroed, and the assignments of some record. -/
theorem microSteps_clearMaskAssign {assigns : List Micro} {st : Status}
    (h : microSteps assigns l s.latchesCleared.allMasked = some (l, s.latchesCleared.allMasked.setSt st)) :
    microSteps (clearAll ++ maskAll ++ assigns) l s = some (l, { s.latchesCleared.allMasked with st := st }) := by
  rw [microSteps_append, microSteps_clearAndMask]
  exact h

/-- An abort's steps before STOP_TRANSMISSION (rule R240). -/
def abortBefore (code : ErrCode) : List Micro :=
  [.setSt (.tempErr code)] ++ clearAll ++ [.setSt (.state .stopTransmission)]

theorem abort_eq (code : ErrCode) : abort code l = deliver (abortBefore code ++ fiveWrites 12#6 0#32) l := rfl

theorem microSteps_abortBefore (code : ErrCode) : microSteps (abortBefore code) l s
    = some (l, s.latchesCleared.setSt { s.st with state := .stopTransmission, tempErr := code }) := by
  rw [abortBefore, microSteps_append, microSteps_append]
  rw [show microSteps [.setSt (.tempErr code)] l s = some (l, s.setSt { s.st with tempErr := code }) from rfl,
    Option.bind_some, microSteps_clearAll]
  rfl

/-- The steps of `advance` before its command (rule R249). -/
def advanceBefore (next : FsmState) : List Micro := [.write .icr l.snapC.zext, .setSt (.state next)]

theorem advance_eq (next : FsmState) (arg : Word) (index : BitVec 6) :
    advance next arg index l = deliver (advanceBefore l next ++ fiveWrites index arg) l := rfl

variable {l s}

/-- Where the snapshot is the latches themselves, its command tier is cleared whole. -/
theorem microSteps_advanceBefore (hsnap : l.snapC = s.regs.isr) (next : FsmState) :
    microSteps (advanceBefore l next) l s
      = some (l, { s with regs := { s.regs with isr := 0#8 }, st := { s.st with state := next } }) := by
  have cleared : s.regs.isr &&& ~~~s.regs.isr = 0#8 := BitVec.and_not_self _
  simp only [advanceBefore, microSteps, microStep, writeReg, lowByte_zext, hsnap, cleared]
  rfl

variable (hphase : s.hid.cmdPhase = .none)
include hphase

theorem microSteps_abort (code : ErrCode) :
    microSteps (abortBefore code ++ fiveWrites 12#6 0#32) l s = some (l, s.aborted code) := by
  rw [microSteps_append, microSteps_abortBefore]
  exact microSteps_fiveWrites 0#32 l hphase (by decide)

theorem microSteps_advance (hsnap : l.snapC = s.regs.isr) (next : FsmState) (arg : Word) {index : BitVec 6}
    (hindex : respClass index ≠ none) :
    microSteps (advanceBefore l next ++ fiveWrites index arg) l s = some (l, s.advanced next arg index) := by
  rw [microSteps_append, microSteps_advanceBefore hsnap]
  exact microSteps_fiveWrites arg l hphase hindex

end

end Sys2Proof.Machine
end

section
/-! What a delivery does (45_interrupt_state_machine.md rules R236 to R249): the classification of an error, the table of the
chains, and the outcome of a delivery in every state, from the request of `isr` to its end. -/

namespace Sys2Proof.Machine

/-! ### The classification (rule R239) -/

theorem commandTier_error_iff (c : Byte) : c &&& 0x0C#8 ≠ 0#8 ↔ c.getLsbD 2 = true ∨ c.getLsbD 3 = true := by
  revert c
  decide

theorem blockTier_error_iff (b : Byte) : b &&& 0x1E#8 ≠ 0#8 ↔
    b.getLsbD 1 = true ∨ b.getLsbD 2 = true ∨ b.getLsbD 3 = true ∨ b.getLsbD 4 = true := by
  revert b
  decide

theorem hasError_iff (c b : Byte) : hasError c b = true ↔ c.getLsbD 2 = true ∨ c.getLsbD 3 = true ∨ b.getLsbD 1 = true
    ∨ b.getLsbD 2 = true ∨ b.getLsbD 3 = true ∨ b.getLsbD 4 = true := by
  rw [hasError, Bool.or_eq_true, bne_iff_ne, bne_iff_ne, commandTier_error_iff, blockTier_error_iff, or_assoc]

/-- `SENT`, `RERR` and `SBE` together. -/
theorem silence_iff (c : Byte) :
    (c &&& 0x0D#8 == 0x0D#8) = true ↔ c.getLsbD 0 = true ∧ c.getLsbD 2 = true ∧ c.getLsbD 3 = true := by
  revert c
  decide

/-- Settles O50: the tests of `classify` in their order. -/
theorem errorClassificationOrder : Obligations.ErrorClassificationOrder := by
  refine fun c b => ⟨hasError_iff c b, fun huof => ?_, fun huof hfto => ?_, fun huof hfto h0 h2 h3 => ?_,
    fun huof hfto hspoke => ?_⟩
  all_goals rw [classify, huof]
  · rfl
  · rw [hfto]
    rfl
  · rw [hfto, (silence_iff c).2 ⟨h0, h2, h3⟩]
    rfl
  · rw [hfto, Bool.eq_false_iff.2 (mt (silence_iff c).1 hspoke)]
    rfl

/-! ### The table of the chains (rules R247, R248) -/

/-- The states that belong to a chain, with the chain and the step of each (10_state.md rule R24). -/
def chainStates : List (FsmState × Chain × ChainStep) :=
  [(.swParseStatus, .sw, .parseStatus), (.swIssueData, .sw, .issueData), (.swAwaitDone, .sw, .awaitDone),
   (.mwParseStatus, .mw, .parseStatus), (.mwParseBlockCount, .mw, .parseBlockCount), (.mwIssueData, .mw, .issueData),
   (.mwAwaitDone, .mw, .awaitDone),
   (.srParseStatus, .sr, .parseStatus), (.srIssueData, .sr, .issueData), (.srAwaitDone, .sr, .awaitDone),
   (.mrParseStatus, .mr, .parseStatus), (.mrParseBlockCount, .mr, .parseBlockCount), (.mrIssueData, .mr, .issueData),
   (.mrAwaitDone, .mr, .awaitDone),
   (.xrParseStatus, .xr, .parseStatus), (.xrIssueData, .xr, .issueData), (.xrAwaitDone, .xr, .awaitDone)]

theorem chain?_eq_some_iff {f : FsmState} {x : Chain} {k : ChainStep} :
    f.chain? = some (x, k) ↔ (f, x, k) ∈ chainStates := by
  constructor
  · intro h
    cases f <;> cases h <;> decide
  · have listed : ∀ e ∈ chainStates, e.1.chain? = some e.2 := by decide
    exact listed (f, x, k)

/-- Settles O51: the parameters chain by chain, and the list of the states. -/
theorem chainTableIsTheSpecs : Obligations.ChainTableIsTheSpecs :=
  ⟨fun _ => ⟨rfl, rfl, rfl, rfl, rfl⟩, rfl, rfl, rfl, rfl, rfl, fun _ _ _ => chain?_eq_some_iff⟩

/-- After the status checkpoint a chain with no block count goes to its data command (rule R242). -/
theorem afterStatus_of_single {x : Chain} (h : x.multi = false) : x.afterStatus = x.issueData := by
  cases x
  case mw | mr => cases h
  all_goals rfl

/-! ### What the dispatch decides (rules R236, R241, R245) -/

/-- The tier's status register, from the snapshot. -/
@[simp] theorem snapTier_snapshotLocals (x : Chain) (s : State) : snapTier x (snapshotLocals s) = s.tierStatus x := by
  cases x <;> rfl

section
variable {s : State} {x : Chain} {k : ChainStep}

/-- In a state of a chain an error comes before the expected event. -/
theorem dispatch_of_chain (l : Locals) (h : s.st.state.chain? = some (x, k)) :
    dispatch l s = if hasError l.snapC (snapTier x l) then abort (classify l.snapC (snapTier x l)) l
      else expectedEvent x k l := by
  unfold dispatch
  split
  case h_4 => rw [h]
  all_goals
    next hshared =>
    rw [hshared] at h
    cases h

theorem dispatch_error (h : s.st.state.chain? = some (x, k)) (herror : hasError s.regs.isr (s.tierStatus x) = true) :
    dispatch (snapshotLocals s) s = abort (classify s.regs.isr (s.tierStatus x)) (snapshotLocals s) := by
  rw [dispatch_of_chain _ h, snapTier_snapshotLocals]
  exact if_pos herror

theorem dispatch_no_error (h : s.st.state.chain? = some (x, k))
    (herror : hasError s.regs.isr (s.tierStatus x) = false) :
    dispatch (snapshotLocals s) s = expectedEvent x k (snapshotLocals s) := by
  rw [dispatch_of_chain _ h, snapTier_snapshotLocals]
  exact if_neg (Bool.not_eq_true _ ▸ herror)

/-- The checkpoints wait for `RRCV` and want `SENT`. -/
theorem expectedEvent_checkpoint (hk : k ≠ .awaitDone) (l : Locals) :
    expectedEvent x k l = if !l.snapC.getLsbD 1 then delivered else if !l.snapC.getLsbD 0 then abort .otherFail l
      else .run readPayload32 (.checkpoint x k) l := by
  cases k
  case awaitDone => exact absurd rfl hk
  all_goals rfl

end

/-! ### The shared states (rules R237, R238) -/

/-- Settles O52: each of the three states has its own last assignments. -/
theorem terminalAndAbortDeliveriesEndInError : Obligations.TerminalAndAbortDeliveriesEndInError := by
  intro s
  refine ⟨fun hexited => ?refused, fun hexited hs => ⟨_, exec_isr hexited, fun hidle => ?idle, fun herror => ?error,
    fun hstop => ?stop⟩⟩
  case refused =>
    show enterInterrupt true s = _
    simp only [enterInterrupt, hexited]
    rfl
  case idle =>
    have hdispatch : dispatch (snapshotLocals s) s = terminal true (snapshotLocals s) := by
      simp only [dispatch, hidle]
    exact run_delivery hs (List.cons_ne_nil _ _) hdispatch (microSteps_clearMaskAssign _ s rfl)
  case error =>
    have hdispatch : dispatch (snapshotLocals s) s = terminal false (snapshotLocals s) := by
      simp only [dispatch, herror]
    have same : ({ s.st with state := .error } : Status) = s.st := by rw [← herror]
    have steps := microSteps_clearMaskAssign (assigns := [.setSt (.state .error)]) (snapshotLocals s) s
      (st := { s.st with state := .error }) rfl
    rw [same] at steps
    exact run_delivery hs (List.cons_ne_nil _ _) hdispatch steps
  case stop =>
    have hdispatch : dispatch (snapshotLocals s) s = finishAbort (snapshotLocals s) s := by
      simp only [dispatch, hstop]
    exact run_delivery hs (List.cons_ne_nil _ _) hdispatch (microSteps_clearMaskAssign _ s rfl)

/-! ### The states of a chain -/

/-- Settles O53: the abort's plan is carried out, or its trigger is refused. -/
theorem errorDeliveryAbortsTheTransfer : Obligations.ErrorDeliveryAbortsTheTransfer := by
  intro s x k hexited hs hchain herror
  have hdispatch := (dispatch_error hchain herror).trans (abort_eq _ _)
  exact ⟨_, exec_isr hexited,
    fun hphase => run_delivery hs (List.cons_ne_nil _ _) hdispatch (microSteps_abort hphase _),
    fun hphase => run_delivery_refused hs hdispatch (microSteps_abortBefore _ s _) hphase⟩

/-- A delivery that the dispatch ends takes the snapshot and changes nothing. -/
theorem run_delivery_ended {s : State} (hs : Quiet s) (h : dispatch (snapshotLocals s) s = delivered) :
    run 3 (s.setDisp (some Ctx.deliveryStart)) = .next s := by
  obtain ⟨hf, -, hd, ha⟩ := hs
  have hrun := run_snapshot 0 s hf ha
  rw [h] at hrun
  exact hrun.trans (congrArg Host.Outcome.next (State.setDisp_self hd))

/-- Settles O54: neither kind of step goes on without its event. -/
theorem unexpectedDeliveryChangesNothing : Obligations.UnexpectedDeliveryChangesNothing := by
  intro s x k hexited hs hchain herror hcheckpoint hdone
  refine ⟨_, exec_isr hexited, run_delivery_ended hs ((dispatch_no_error hchain herror).trans ?_)⟩
  by_cases hk : k = .awaitDone
  · subst hk
    simp only [expectedEvent, snapTier_snapshotLocals, hdone rfl]
    rfl
  · rw [expectedEvent_checkpoint hk]
    simp only [snapshotLocals, hcheckpoint hk]
    rfl

/-- Settles O56: `complete` is its plan. -/
theorem doneDeliveryCompletesTheTransfer : Obligations.DoneDeliveryCompletesTheTransfer := by
  intro s x hexited hs hchain herror hdone
  have hdispatch : dispatch (snapshotLocals s) s = complete (snapshotLocals s) := by
    rw [dispatch_no_error hchain herror]
    simp only [expectedEvent, snapTier_snapshotLocals, hdone]
    rfl
  exact ⟨_, exec_isr hexited,
    run_delivery hs (List.cons_ne_nil _ _) hdispatch (microSteps_clearMaskAssign _ s rfl)⟩

/-! ### The checkpoints (rules R242 to R244) -/

section
variable {s : State} {x : Chain} {k : ChainStep} {l : Locals}

/-- An error bit in the card status comes first. -/
theorem checkpoint_fail (hparse : parseR1 s.cfg l.payload = .fail) : checkpoint x k l s = abort x.failCode l :=
  if_pos hparse

variable (hparse : parseR1 s.cfg l.payload ≠ .fail)
include hparse

theorem checkpoint_not_tran
    (hwait : parseR1 s.cfg l.payload = .busy ∨ curState s.cfg l.payload ≠ s.cfg.stateTran) :
    checkpoint x .parseStatus l s = advance x.parseStatus (argRca s.cfg) 13#6 l :=
  (if_neg hparse).trans (if_pos hwait)

theorem checkpoint_tran (hready : ¬ (parseR1 s.cfg l.payload = .busy ∨ curState s.cfg l.payload ≠ s.cfg.stateTran)) :
    checkpoint x .parseStatus l s = if x.multi then advance x.afterStatus (argCount s.st.blocks) 23#6 l
      else advance x.afterStatus (x.dataArg s.st.sector) x.dataCmd l :=
  (if_neg hparse).trans (if_neg hready)

theorem checkpoint_blockCount :
    checkpoint x .parseBlockCount l s = advance x.issueData (x.dataArg s.st.sector) x.dataCmd l :=
  if_neg hparse

theorem checkpoint_issueData :
    checkpoint x .issueData l s = deliver (advanceBefore l x.awaitDone) l :=
  if_neg hparse

end

/-- The locals of a delivery at a checkpoint: the snapshot and the card status. -/
def checkpointLocals (s : State) : Locals := { snapshotLocals s with payload := s.cardStatus }

/-- Settles O55: the dispatch comes to the checkpoint, whose tests are made in their order; each plan they lead to is carried
out. -/
theorem checkpointDeliveriesFollowTheTable : Obligations.CheckpointDeliveriesFollowTheTable := by
  intro s x k hexited hs hchain hk herror hrrcv hphase
  have hdispatch : dispatch (snapshotLocals s) s = if !s.regs.isr.getLsbD 0 then abort .otherFail (snapshotLocals s)
      else .run readPayload32 (.checkpoint x k) (snapshotLocals s) := by
    rw [dispatch_no_error hchain herror, expectedEvent_checkpoint hk]
    simp only [snapshotLocals, hrrcv]
    rfl
  have aborts (l : Locals) (code : ErrCode) := microSteps_abort (l := l) hphase code
  have advances {next : FsmState} {arg : Word} {index : BitVec 6} (hindex : respClass index ≠ none)
      (hsent : s.regs.isr.getLsbD 0 = true)
      (hcheck : checkpoint x k (checkpointLocals s) s = advance next arg index (checkpointLocals s)) :
      run 14 (s.setDisp (some Ctx.deliveryStart)) = .next (s.advanced next arg index) := by
    rw [hsent] at hdispatch
    exact run_delivery_checkpoint hs (List.cons_ne_nil _ _) hdispatch (hcheck.trans (advance_eq _ _ _ _))
      (microSteps_advance (l := checkpointLocals s) hphase rfl next arg hindex)
  refine ⟨_, exec_isr hexited, fun hsent => ?notSent, fun hsent hparse => ?cardError, fun hsent hparse =>
    ⟨fun hstep hwait => ?again, fun hstep hready htran => ⟨fun hmulti => ?blockCount, fun hsingle => ?data⟩,
     fun hstep => ?counted, fun hstep => ?issued⟩⟩
  case notSent =>
    rw [hsent] at hdispatch
    exact run_delivery hs (List.cons_ne_nil _ _) hdispatch (aborts _ _)
  case cardError =>
    rw [hsent] at hdispatch
    exact run_delivery_checkpoint hs (List.cons_ne_nil _ _) hdispatch
      (checkpoint_fail (l := checkpointLocals s) hparse) (aborts _ _)
  case again =>
    subst hstep
    exact advances (by decide) hsent (checkpoint_not_tran (l := checkpointLocals s) hparse hwait)
  case counted =>
    subst hstep
    exact advances (respClass_dataCmd x) hsent (checkpoint_blockCount (l := checkpointLocals s) hparse)
  case issued =>
    subst hstep
    rw [hsent] at hdispatch
    exact run_delivery_checkpoint hs (List.cons_ne_nil _ _) hdispatch
      (checkpoint_issueData (l := checkpointLocals s) hparse)
      (microSteps_advanceBefore (l := checkpointLocals s) rfl x.awaitDone)
  all_goals
    subst hstep
    have tran := checkpoint_tran (x := x) (l := checkpointLocals s) hparse (by
      rintro (hbusy | hother)
      · cases hready.symm.trans hbusy
      · exact hother htran)
  case blockCount =>
    exact advances (by decide) hsent (tran.trans (if_pos hmulti))
  case data =>
    rw [← afterStatus_of_single hsingle]
    exact advances (respClass_dataCmd x) hsent (tran.trans (if_neg (Bool.not_eq_true _ ▸ hsingle)))

end Sys2Proof.Machine
end

section
/-! The assertion fault (60_exceptions.md rule R266): the state it leaves serves nothing more, and a null instance raises it
before any other test of an operation. -/

namespace Sys2Proof.Machine

/-! ### The sink -/

/-- The fault flag is looked at before the agenda: neither a turn nor the agent in progress is served. -/
theorem step_faulted {s : State} {reason : AssertReason} (h : s.faulted = some reason) :
    step s = .fault (.assertFault reason) := by
  simp only [step, takeStep, h]

/-- Settles O7. -/
theorem assertionFaultIsASink : Obligations.AssertionFaultIsASink :=
  fun _ _ => step_faulted

/-! ### The null instance -/

section
variable {s : State}

theorem exec_init_nullInstance (initClkDiv clkDiv : Byte) :
    exec (.init false initClkDiv clkDiv) s = .next { s with faulted := some .nullInstance } := rfl

theorem exec_status_nullInstance (now : Word) :
    exec (.status false now) s = .next { s with faulted := some .nullInstance } := rfl

theorem enterInterrupt_nullInstance : enterInterrupt false s = .next { s with faulted := some .nullInstance } := rfl

theorem exec_initFifo_nullInstance : exec (.initFifo false) s = .next { s with faulted := some .nullInstance } := rfl

theorem exec_wfifoAddr_nullInstance : exec (.wfifoAddr false) s = .next { s with faulted := some .nullInstance } := rfl

theorem exec_rfifoAddr_nullInstance : exec (.rfifoAddr false) s = .next { s with faulted := some .nullInstance } := rfl

end

/-- Settles O49: the transfers share the tests of rules R202 and R215, `isr` the interrupt entry, and the other operations make
their own; the instance is the first test of each. -/
theorem nullInstanceFaultsEveryOperation : Obligations.NullInstanceFaultsEveryOperation := by
  intro s a b c d e n i hi
  refine ⟨?raised, step_faulted rfl⟩
  simp only [List.mem_cons, List.not_mem_nil, or_false] at hi
  obtain rfl | rfl | rfl | rfl | rfl | rfl | rfl | rfl | rfl | rfl | rfl | rfl := hi
  · exact exec_init_nullInstance d e
  · exact (exec_sbw ..).trans blockingTransfer_nullInstance
  · exact (exec_sbr ..).trans blockingTransfer_nullInstance
  · exact (exec_sbwNb ..).trans startNb_nullInstance
  · exact (exec_sbrNb ..).trans startNb_nullInstance
  · exact (exec_mbw ..).trans startNb_nullInstance
  · exact (exec_mbr ..).trans startNb_nullInstance
  · exact exec_status_nullInstance a
  · exact enterInterrupt_nullInstance
  · exact exec_initFifo_nullInstance
  · exact exec_wfifoAddr_nullInstance
  · exact exec_rfifoAddr_nullInstance

end Sys2Proof.Machine
end
